-- ==== Sys2Proof/Word.lean ====
section
/-! DEFINITION. The word types of the block (spec/00_scope.md R7: every value is unsigned, bit 0 is the least
significant bit). -/

namespace Sys2Proof

/-- A byte of a buffer, of a frame or of an operation code (20_memory.md R60). -/
abbrev Byte := BitVec 8

/-- The 32-bit word of the host's register access (10_state.md R22). -/
abbrev HostWord := BitVec 32

end Sys2Proof
end

