-- ==== Sys2Proof/Syntax.lean ====
section
/-! DEFINITION. The operations of the block, one constructor per row of spec/opcode_table.json (30_encoding.md R94).
An operation has no encoded operands: all its operands are in registers and buffers (R94, R96). -/

namespace Sys2Proof

/-- The eleven operations of 30_encoding.md R94, in the table's order. -/
inductive Instr where
  | cksum8Gen
  | cksum8Chk
  | crc16Gen
  | crc16Chk
  | build
  | decode
  | qenq
  | qpeek
  | qdeq
  | qrst
  | rply
  deriving DecidableEq, Repr

end Sys2Proof
end

