-- ==== Sys2Proof/Decode.lean ====
section
/-! DEFINITION. Operation codes (30_encoding.md R94, R95): the decoder, total on every byte and rejecting by name, and
after it the encoder, both written from R94's table. -/

namespace Sys2Proof

/-- Why a byte is no operation. -/
inductive DecodeError where
  /-- The byte is none of the codes of 30_encoding.md R94: an illegal operation (R95). -/
  | unassignedOp (op : Byte)
  deriving DecidableEq, Repr

/-- The operation an OP byte selects (30_encoding.md R94). The codes of an absent unit decode here and are illegal in
their meanings (R95), since the decoder does not know the configuration. -/
def decodeOp (op : Byte) : Except DecodeError Instr :=
  match op.toNat with
  | 0x01 => .ok .cksum8Gen
  | 0x02 => .ok .cksum8Chk
  | 0x03 => .ok .crc16Gen
  | 0x04 => .ok .crc16Chk
  | 0x10 => .ok .build
  | 0x11 => .ok .decode
  | 0x20 => .ok .qenq
  | 0x21 => .ok .qpeek
  | 0x22 => .ok .qdeq
  | 0x23 => .ok .qrst
  | 0x30 => .ok .rply
  | _ => .error (.unassignedOp op)

/-- The OP code of an operation (30_encoding.md R94, column OP). -/
def encode : Instr → Byte
  | .cksum8Gen => 0x01#8
  | .cksum8Chk => 0x02#8
  | .crc16Gen => 0x03#8
  | .crc16Chk => 0x04#8
  | .build => 0x10#8
  | .decode => 0x11#8
  | .qenq => 0x20#8
  | .qpeek => 0x21#8
  | .qdeq => 0x22#8
  | .qrst => 0x23#8
  | .rply => 0x30#8

/-- The operation whose bits, as spec/opcode_table.json numbers them, are `w`: one byte, bit 0 least significant (every
row has 8 bits; 10_state.md R24 reads OP from bits 7:0). Bits at and above `nbits` are 0. -/
def decodeTableWord (nbits w : Nat) : Option Instr :=
  match decodeOp (BitVec.ofNat 8 (w % 2 ^ nbits)) with
  | .ok i => some i
  | .error _ => none

end Sys2Proof
end

