-- ==== Sys2Proof/Config.lean ====
section
/-! DEFINITION. What an implementation fixes (00_scope.md R6, `Params`) and the values the spec leaves open
(93_implementation_defined.md U1, U2, U3), as constants without a body: nothing can be proved of their values. -/

namespace Sys2Proof

/-- The three buffer spaces of 20_memory.md R60. -/
inductive Space where
  | cbuf   -- command body in, MAX_BODY bytes
  | txbuf  -- frame out, TXCAP bytes
  | rxbuf  -- frame in, RXCAP bytes
  deriving DecidableEq, Repr

/-- The parameter BUILD_ERR_ORDER of 00_scope.md R6: which error BUILD reports when both apply (41_build.md R132). -/
inductive BuildErrOrder where
  | capacityFirst
  | payloadFirst
  | either
  deriving DecidableEq, Repr

/-- The parameters of 00_scope.md R6. They are configuration, not state (R12): the machine carries them in a field of
State that no step changes, so that a statement about every state is a statement about every configuration.
DESIGN CHOICE (log entry 1). -/
structure Params where
  /-- MAX_BODY: the largest command body in bytes, which is also the size of CBUF (R60). -/
  maxBody : Nat
  /-- TXCAP: the size of TXBUF in bytes. -/
  txCap : Nat
  /-- RXCAP: the size of RXBUF in bytes. -/
  rxCap : Nat
  /-- CHECK_MARK: whether DECODE checks the byte at offset 0. -/
  checkMark : Bool
  /-- BUILD_ERR_ORDER. -/
  buildErrOrder : BuildErrOrder
  /-- HAS_Q: the command queue is present. -/
  hasQ : Bool
  /-- QCAP: the number of entries the queue holds. -/
  qCap : Nat
  /-- HAS_R: the reply interpreter is present. -/
  hasR : Bool
  /-- CODE_ACK, CODE_NAK, CODE_PDID: the reply codes the interpreter recognises. -/
  codeAck : Byte
  codeNak : Byte
  codePdid : Byte
  deriving DecidableEq, Repr

/-- The configuration of the spec's test vectors (95_test_vectors.md, head of the file; 92_eei_decisions.md, last
paragraph), with both companion units present. DESIGN CHOICE (log entry 1): safe where a statement is about every
configuration, and no statement rests on these values. -/
def Params.testVectors : Params where
  maxBody := 1024
  txCap := 1280
  rxCap := 1280
  checkMark := true
  buildErrOrder := .either
  hasQ := true
  qCap := 3
  hasR := true
  codeAck := 0x40#8
  codeNak := 0x41#8
  codePdid := 0x45#8

/-- The named block alone: the same sizes, HAS_Q and HAS_R false (00_scope.md R4). -/
def Params.namedBlock : Params := { Params.testVectors with hasQ := false, hasR := false }

/-- FREE VALUE (log entry 2): the byte at an index of a buffer space that nothing has written since reset number
`resets` (10_state.md R47, "arbitrary"; 93 U2, `any value`). -/
opaque Config.resetByte (resets : Nat) (sp : Space) (i : Nat) : Byte

/-- FREE VALUE (log entry 4): the bytes a failed BUILD leaves in TXBUF[0..CAP) (41_build.md R134; 93 U1,
`any value` for each byte), numbered by the counter `draws` of State. -/
opaque Config.freeByte (draw : Nat) : Byte

/-- FREE VALUE (log entry 5): with BUILD_ERR_ORDER `either`, true: BUILD reports PayloadTooLarge, false: it reports
CapacityExceeded (41_build.md R132; 93 U3, `any value` drawn from the two). -/
opaque Config.freeErrorChoice (draw : Nat) : Bool

/-- FREE VALUE (log entry 8): what the 16-bit QCOUNT holds when the queue has more than 65535 entries, which the spec
does not state (43_companions.md R166; QCAP has no upper bound in 00_scope.md R6). -/
opaque Config.wideCount (entries : Nat) : BitVec 16

end Sys2Proof
end

