-- ==== Sys2Proof/Machine/State.lean ====
section
/-! DEFINITION. The state of one instance of the block as plain data (10_state.md R20, R22, R47), with the host's
script beside it (00_scope.md R9, R11), and the state after reset. -/

namespace Sys2Proof.Machine

/-- The bytes of one buffer space that have been written: (index, byte) pairs, indices strictly rising. An index that is
not listed has no stored value: it reads as a free value (log entry 2). -/
abbrev Memory := List Host.Cell

/-- An entry of the command queue: a command (43_companions.md R165). -/
structure QEntry where
  /-- The command code. -/
  code : Byte
  /-- A copy of the body's bytes ("immutable once enqueued", R167). -/
  body : List Byte
  deriving DecidableEq, Repr

/-- The registers of 10_state.md R22, in the table's order. -/
inductive Reg where
  | cfg | cmd | status
  | code | seq | mode | blen | cap | rlen | soff | slen
  | olen | rcode | rctrl | raddr | poff | plen | trl
  | rkind | rerr | idVendor | idModel | idVersion | idSerial | idFw
  | qcount
  deriving DecidableEq, Repr

/-- One line of a script (30_encoding.md R98, R99). `buildLine` and `decodeLine` are the pseudo-instructions BUILD and
DECODE; `op` is the line `OP <mnemonic>`. R99 gives no range for the values `code`, `seq` and `cap` of BUILD
and `off` and `len` of SPAN: that they have the widths of the registers they are written to is the model's choice (DESIGN
CHOICE, safe: log entry 18). The line `wr` takes any 32-bit value. -/
inductive ScriptLine where
  | wr (r : Reg) (v : HostWord)
  | wrCfg (addr : BitVec 7) (dir achk : Bool)
  | rd (r : Reg)
  | put (sp : Space) (i : Nat) (b : Byte)
  | get (sp : Space) (i : Nat)
  | op (i : Instr)
  | fill (sp : Space) (i : Nat) (bs : List Byte)
  | body (bs : List Byte)
  | recv (bs : List Byte)
  | loop
  | buildLine (code : Byte) (seq : BitVec 2) (mode : BitVec 1) (cap : BitVec 16)
  | decodeLine
  | spanLine (off len : BitVec 16)
  deriving DecidableEq, Repr

/-- What the host comes to next: one of the four transactions of 00_scope.md R9, the reset of 70_reset_and_hazards.md
R215, or a script line (30_encoding.md R98). -/
inductive Event where
  /-- `RegRead(n)`. -/
  | regRead (n : Nat)
  /-- `RegWrite(n, v)`; to CMD, it starts the operation `v[7:0]` (10_state.md R24). -/
  | regWrite (n : Nat) (v : HostWord)
  /-- `BufRead(SPACE, i)`. -/
  | bufRead (sp : Space) (i : Nat)
  /-- `BufWrite(SPACE, i, b)`. -/
  | bufWrite (sp : Space) (i : Nat) (b : Byte)
  /-- The reset of R215, an event outside the block's operations. -/
  | reset
  /-- A script line not yet reached: its transactions depend on the state in which the host reaches it (30_encoding.md
  R99, LOOP; log entry 3). -/
  | line (l : ScriptLine)
  deriving DecidableEq, Repr

/-- What a read transaction returned to the host (10_state.md R22: a register's value in 32 bits; 20_memory.md R61: one
byte of a buffer). -/
inductive Answer where
  | reg (v : HostWord)
  | byte (b : Byte)
  deriving DecidableEq, Repr

/-- Why the machine stops. -/
inductive Fault where
  /-- Raised by an operation whose operands would take it past the end of a buffer space (`bound` is the first index it
  would not touch). 20_memory.md R62 says that no operation does this; no state that meets `State.Inv` raises it.
  Safe (log entry 6). -/
  | outsideBuffer (sp : Space) (bound : Nat)
  deriving DecidableEq, Repr

/-- Why the machine answers that it has no meaning. -/
inductive Refusal where
  /-- Raised by an arm of `exec` for an operation that has no meaning yet. No arm does. Safe. -/
  | notModelled (mnemonic : String)
  /-- Raised by `step` when the parameters lie outside the legal ranges of 00_scope.md R6 (93 U5: such a configuration
  is `refuse`). Safe (log entry 7). -/
  | illegalConfiguration
  deriving DecidableEq, Repr

/-- The state of one instance (10_state.md R20), the parameters it is built with, and the host's script. CMD has no
field: it stores nothing (R24, R47). -/
structure State where
  /-- The parameters of 00_scope.md R6; no step changes them (log entry 1). -/
  params : Params
  /-- CFG (10_state.md R23): ADDR 6:0, DIR 7, ACHK 8. -/
  cfg : BitVec 9
  /-- STATUS (R27): ERR 3:0, RV 4, QV 5. -/
  status : BitVec 6
  /-- CODE (R30). -/
  code : BitVec 8
  /-- SEQ (R31). -/
  seq : BitVec 2
  /-- MODE (R32): 0 checksum-8, 1 CRC-16. -/
  mode : BitVec 1
  /-- BLEN (R33). -/
  blen : BitVec 16
  /-- CAP (R34). -/
  cap : BitVec 16
  /-- RLEN (R35). -/
  rlen : BitVec 16
  /-- SOFF (R36). -/
  soff : BitVec 16
  /-- SLEN (R36). -/
  slen : BitVec 16
  /-- OLEN (R38). -/
  olen : BitVec 16
  /-- RCODE (R39). -/
  rcode : BitVec 8
  /-- RCTRL (R40). -/
  rctrl : BitVec 8
  /-- RADDR (R41). -/
  raddr : BitVec 8
  /-- POFF (R42). -/
  poff : BitVec 16
  /-- PLEN (R42). -/
  plen : BitVec 16
  /-- TRL (R43). -/
  trl : BitVec 16
  /-- RKIND (43_companions.md R176). -/
  rkind : BitVec 2
  /-- RERR (R176). -/
  rerr : BitVec 8
  /-- ID_VENDOR (R176). -/
  idVendor : BitVec 24
  /-- ID_MODEL (R176). -/
  idModel : BitVec 8
  /-- ID_VERSION (R176). -/
  idVersion : BitVec 8
  /-- ID_SERIAL (R176). -/
  idSerial : BitVec 32
  /-- ID_FW (R176). -/
  idFw : BitVec 24
  /-- QCOUNT (R166). -/
  qcount : BitVec 16
  /-- The queue Q, oldest entry first (R165). -/
  queue : List QEntry
  /-- CBUF (20_memory.md R60). -/
  cbuf : Memory
  /-- TXBUF (R60). -/
  txbuf : Memory
  /-- RXBUF (R60). -/
  rxbuf : Memory
  /-- What the host does next, oldest first (00_scope.md R9, R11; 30_encoding.md R98; log entry 3). -/
  pending : List Event
  /-- What the host has been answered, newest first (log entry 3). -/
  answers : List Answer
  /-- How many free values failed BUILDs have drawn (log entry 4). -/
  draws : Nat
  /-- How many resets there have been (log entry 2). -/
  resets : Nat
  deriving DecidableEq, Repr

/-- The state after reset of a block with the parameters `p`: the table of 10_state.md R47. Every register is 0, the
queue is empty, and nothing is listed in a buffer, so that every byte is arbitrary. -/
def State.resetWith (p : Params) : State where
  params := p
  cfg := 0
  status := 0
  code := 0
  seq := 0
  mode := 0
  blen := 0
  cap := 0
  rlen := 0
  soff := 0
  slen := 0
  olen := 0
  rcode := 0
  rctrl := 0
  raddr := 0
  poff := 0
  plen := 0
  trl := 0
  rkind := 0
  rerr := 0
  idVendor := 0
  idModel := 0
  idVersion := 0
  idSerial := 0
  idFw := 0
  qcount := 0
  queue := []
  cbuf := []
  txbuf := []
  rxbuf := []
  pending := []
  answers := []
  draws := 0
  resets := 0

/-- The machine right after reset, with the configuration of the spec's test vectors (log entry 1). -/
def State.reset : State := State.resetWith Params.testVectors

end Sys2Proof.Machine
end

