-- ==== Sys2Proof/Machine/Flags.lean ====
section
/-! DEFINITION. The fields of the system registers STATUS (10_state.md R27) and CFG (R23), of the control byte
(30_encoding.md R85) and of the address byte (R82), and the error codes (60_exceptions.md R191). -/

namespace Sys2Proof.Machine

/-- The outcomes of an operation (60_exceptions.md R191). -/
inductive Err where
  | ok
  | capacityExceeded
  | payloadTooLarge
  | badSyncByte
  | lengthMismatch
  | integrityError
  | addressMismatch
  | queueFull
  | shortPayload
  | illegalOp
  deriving DecidableEq, Repr

/-- The code of an outcome in STATUS.ERR (60_exceptions.md R191; 10 to 15 are never written). -/
def Err.code : Err → BitVec 4
  | .ok => 0
  | .capacityExceeded => 1
  | .payloadTooLarge => 2
  | .badSyncByte => 3
  | .lengthMismatch => 4
  | .integrityError => 5
  | .addressMismatch => 6
  | .queueFull => 7
  | .shortPayload => 8
  | .illegalOp => 9

/-- STATUS from its three fields: ERR in bits 3:0, RV in bit 4, QV in bit 5 (10_state.md R27). -/
def packStatus (err : BitVec 4) (rv qv : Bool) : BitVec 6 :=
  BitVec.ofBool qv ++ (BitVec.ofBool rv ++ err)

/-- STATUS.ERR, bits 3:0. -/
def statusErr (st : BitVec 6) : BitVec 4 := st.extractLsb' 0 4

/-- STATUS.RV, bit 4: the reply view is valid. -/
def statusRV (st : BitVec 6) : Bool := st.getLsbD 4

/-- STATUS.QV, bit 5: the queue read returned an entry. -/
def statusQV (st : BitVec 6) : Bool := st.getLsbD 5

/-- CFG.ADDR, bits 6:0 (10_state.md R23). -/
def cfgAddr (c : BitVec 9) : BitVec 7 := c.extractLsb' 0 7

/-- CFG.DIR, bit 7. -/
def cfgDir (c : BitVec 9) : Bool := c.getLsbD 7

/-- CFG.ACHK, bit 8: DECODE performs the address check. -/
def cfgAchk (c : BitVec 9) : Bool := c.getLsbD 8

/-- The address byte ADDR + 128 * DIR (30_encoding.md R82). -/
def addressByte (c : BitVec 9) : Byte := BitVec.ofBool (cfgDir c) ++ cfgAddr c

/-- The low 7 bits of a received address byte, the peripheral's address (30_encoding.md R82). -/
def byteAddr (b : Byte) : BitVec 7 := b.extractLsb' 0 7

/-- The control byte SEQ + 4 * MODE, bits 7:3 zero (30_encoding.md R85, R86). -/
def controlByte (seq : BitVec 2) (mode : BitVec 1) : Byte := (0 : BitVec 5) ++ (mode ++ seq)

/-- The trailer mode a control byte carries, bit 2: 0 checksum-8, 1 CRC-16 (30_encoding.md R85, R86). -/
def ctrlMode (ctrl : Byte) : BitVec 1 := ctrl.extractLsb' 2 1

end Sys2Proof.Machine
end

