-- ==== Sys2Proof/WellFormed.lean ====
section
/-! DEFINITION. What is well-formed: a configuration within the legal ranges of 00_scope.md R6, and an operation that
the configured block has (30_encoding.md R95: the operations of an absent unit are illegal). -/

namespace Sys2Proof

/-- The parts of the block an operation or a register belongs to (the column `unit` of 30_encoding.md R94). -/
inductive Part where
  | base
  | unitQ
  | unitR
  deriving DecidableEq, Repr

/-- Whether a part is present (HAS_Q, HAS_R of 00_scope.md R6). -/
def Params.has (p : Params) : Part → Bool
  | .base => true
  | .unitQ => p.hasQ
  | .unitR => p.hasR

/-- The column `unit` of 30_encoding.md R94. -/
def Instr.part : Instr → Part
  | .cksum8Gen => .base
  | .cksum8Chk => .base
  | .crc16Gen => .base
  | .crc16Chk => .base
  | .build => .base
  | .decode => .base
  | .qenq => .unitQ
  | .qpeek => .unitQ
  | .qdeq => .unitQ
  | .qrst => .unitQ
  | .rply => .unitR

/-- An operation is well-formed for a configuration when its unit is present (30_encoding.md R95). -/
def Instr.wellFormed (p : Params) (i : Instr) : Bool := p.has i.part

/-- The sizes of 00_scope.md R6: MAX_BODY 0 to 65527, TXCAP and RXCAP 9 to 65535. -/
def Params.legalSizes (p : Params) : Bool :=
  decide (p.maxBody ≤ 65527) &&
    (decide (9 ≤ p.txCap) && decide (p.txCap ≤ 65535)) &&
    (decide (9 ≤ p.rxCap) && decide (p.rxCap ≤ 65535))

/-- QCAP is at least 1, "only if HAS_Q" (00_scope.md R6). -/
def Params.legalQueue (p : Params) : Bool := !p.hasQ || decide (1 ≤ p.qCap)

/-- The three reply codes are pairwise distinct, "only if HAS_R" (00_scope.md R6; 93 U5). -/
def Params.legalCodes (p : Params) : Bool :=
  !p.hasR || (p.codeAck != p.codeNak && p.codeAck != p.codePdid && p.codeNak != p.codePdid)

/-- A configuration within the legal ranges of 00_scope.md R6. -/
def Params.legal (p : Params) : Bool := p.legalSizes && p.legalQueue && p.legalCodes

end Sys2Proof
end

