-- ==== Sys2Proof/Machine/Ops.lean ====
section
/-! DEFINITION. The named operations over buffers, registers and the end of an operation: byte order (20_memory.md
R63), buffer reads and writes (R60 to R62), the register map (10_state.md R22), `raise` and `done` (60_exceptions.md
R196, which is the block's whole exception entry, R200), reset (70_reset_and_hazards.md R215) and the host's next
transaction (00_scope.md R9). -/

namespace Sys2Proof.Machine

/-! ### Byte order (20_memory.md R63) -/

/-- Bits 7:0 of a two-byte value, the byte at the lower index. -/
def lowByte (v : BitVec 16) : Byte := v.extractLsb' 0 8

/-- Bits 15:8 of a two-byte value, the byte at the higher index. -/
def highByte (v : BitVec 16) : Byte := v.extractLsb' 8 8

/-- Two bytes read little-endian: `lo + 256 * hi`. -/
def littleEndian16 (lo hi : Byte) : BitVec 16 := hi ++ lo

/-! ### The written bytes of one buffer space -/

/-- The stored byte at an index, if one is listed. -/
def Memory.lookup : Memory → Nat → Option Byte
  | [], _ => none
  | (a, b) :: m, i => if i = a then some b else Memory.lookup m i

/-- Storing one byte, keeping the indices strictly rising. -/
def Memory.store : Memory → Nat → Byte → Memory
  | [], i, b => [(i, b)]
  | (a, c) :: m, i, b =>
    if i < a then (i, b) :: (a, c) :: m
    else if i = a then (i, b) :: m
    else (a, c) :: Memory.store m i b

/-- Storing a sequence of bytes at consecutive indices from `i`. -/
def Memory.storeAll : List Byte → Nat → Memory → Memory
  | [], _, m => m
  | b :: bs, i, m => Memory.storeAll bs (i + 1) (Memory.store m i b)

/-- The canonical form: indices strictly rising. (An unlisted index has no stored value, so no entry can equal it.) -/
abbrev Memory.wf (m : Memory) : Prop := m.Pairwise (fun x y => x.1 < y.1)

/-- Every listed index lies below `n`. -/
abbrev Memory.within (n : Nat) (m : Memory) : Prop := ∀ c ∈ m, c.1 < n

/-! ### The three buffer spaces (20_memory.md R60) -/

/-- The size of a space in bytes (R60). -/
def State.size (s : State) : Space → Nat
  | .cbuf => s.params.maxBody
  | .txbuf => s.params.txCap
  | .rxbuf => s.params.rxCap

/-- The written bytes of a space. -/
def State.mem (s : State) : Space → Memory
  | .cbuf => s.cbuf
  | .txbuf => s.txbuf
  | .rxbuf => s.rxbuf

/-- Replacing the written bytes of a space. -/
def State.setMem (s : State) (sp : Space) (m : Memory) : State :=
  match sp with
  | .cbuf => { s with cbuf := m }
  | .txbuf => { s with txbuf := m }
  | .rxbuf => { s with rxbuf := m }

/-- The byte at an index of a space: the stored byte, or the free value of a byte that nothing has written since reset
(10_state.md R47; 93 U2; log entry 2). -/
def State.byteAt (s : State) (sp : Space) (i : Nat) : Byte :=
  (Memory.lookup (s.mem sp) i).getD (Config.resetByte s.resets sp i)

/-- `MemRead(SPACE:i, 2)`: two bytes, little-endian (R63). -/
def State.wordAt (s : State) (sp : Space) (i : Nat) : BitVec 16 :=
  littleEndian16 (s.byteAt sp i) (s.byteAt sp (i + 1))

/-- `SPACE[lo..lo+n)`: the byte sequence at `n` consecutive indices (00_scope.md R8). -/
def State.span (s : State) (sp : Space) (lo n : Nat) : List Byte :=
  (List.range n).map (fun k => s.byteAt sp (lo + k))

/-- Writing consecutive bytes of a space from index `i` (`MemWrite` of 00_scope.md R8, byte by byte). -/
def State.storeBytes (s : State) (sp : Space) (i : Nat) (bs : List Byte) : State :=
  s.setMem sp (Memory.storeAll bs i (s.mem sp))

/-- What an operation does that touches the indices below `bound` of a space. 20_memory.md R62: an operation never
touches an index at or beyond the size; an operand that asked for it would stop the machine (log entry 6). -/
def State.touchBelow (s : State) (sp : Space) (bound : Nat) (k : Host.Outcome State Fault Refusal) :
    Host.Outcome State Fault Refusal :=
  if bound ≤ s.size sp then k else .fault (.outsideBuffer sp bound)

/-! ### The end of an operation (00_scope.md R8; 60_exceptions.md R190, R196) -/

/-- `x[STATUS].ERR <- code`, RV and QV unchanged. -/
def State.setErr (s : State) (e : Err) : State :=
  { s with status := packStatus e.code (statusRV s.status) (statusQV s.status) }

/-- `x[STATUS].RV <- b`, ERR and QV unchanged. -/
def State.setRV (s : State) (b : Bool) : State :=
  { s with status := packStatus (statusErr s.status) b (statusQV s.status) }

/-- `x[STATUS].QV <- b`, ERR and RV unchanged. -/
def State.setQV (s : State) (b : Bool) : State :=
  { s with status := packStatus (statusErr s.status) (statusRV s.status) b }

/-- `raise E`: the operation ends at once with the error's code in STATUS.ERR. Taking an error is this and nothing else:
no trap, no vector, no saved state, no change of mode (60_exceptions.md R190, R200). What else an operation clears on
an error (R196) it clears before it raises. -/
def State.raise (s : State) (e : Err) : Host.Outcome State Fault Refusal := .next (s.setErr e)

/-- `done`: the operation ends with STATUS.ERR 0 (00_scope.md R8). Nothing has to be returned from (R195). -/
def State.done (s : State) : Host.Outcome State Fault Refusal := .next (s.setErr .ok)

/-- An illegal operation: ERR <- 9 and nothing else (30_encoding.md R95; 60_exceptions.md R197). -/
def State.illegalOp (s : State) : Host.Outcome State Fault Refusal := s.raise .illegalOp

/-- The operations of a unit that is absent are illegal operations (30_encoding.md R95). -/
def State.whenPresent (s : State) (i : Instr) (k : Host.Outcome State Fault Refusal) :
    Host.Outcome State Fault Refusal :=
  if i.wellFormed s.params then k else s.illegalOp

/-! ### The register map (10_state.md R22) -/

/-- The column `host access` of 10_state.md R22 (WARL registers are read/write). -/
inductive Access where
  | readWrite
  | readOnly
  | trigger
  deriving DecidableEq, Repr

/-- The column `number` of 10_state.md R22. -/
def Reg.number : Reg → Nat
  | .cfg => 0x00 | .cmd => 0x01 | .status => 0x02
  | .code => 0x08 | .seq => 0x09 | .mode => 0x0A | .blen => 0x0B
  | .cap => 0x0C | .rlen => 0x0D | .soff => 0x0E | .slen => 0x0F
  | .olen => 0x10 | .rcode => 0x11 | .rctrl => 0x12 | .raddr => 0x13
  | .poff => 0x14 | .plen => 0x15 | .trl => 0x16
  | .rkind => 0x18 | .rerr => 0x19 | .idVendor => 0x1A | .idModel => 0x1B
  | .idVersion => 0x1C | .idSerial => 0x1D | .idFw => 0x1E
  | .qcount => 0x20

/-- The register with a number, if it is mapped (10_state.md R22: "every number not listed is unmapped"). -/
def regOfNumber (n : Nat) : Option Reg :=
  match n with
  | 0x00 => some .cfg
  | 0x01 => some .cmd
  | 0x02 => some .status
  | 0x08 => some .code
  | 0x09 => some .seq
  | 0x0A => some .mode
  | 0x0B => some .blen
  | 0x0C => some .cap
  | 0x0D => some .rlen
  | 0x0E => some .soff
  | 0x0F => some .slen
  | 0x10 => some .olen
  | 0x11 => some .rcode
  | 0x12 => some .rctrl
  | 0x13 => some .raddr
  | 0x14 => some .poff
  | 0x15 => some .plen
  | 0x16 => some .trl
  | 0x18 => some .rkind
  | 0x19 => some .rerr
  | 0x1A => some .idVendor
  | 0x1B => some .idModel
  | 0x1C => some .idVersion
  | 0x1D => some .idSerial
  | 0x1E => some .idFw
  | 0x20 => some .qcount
  | _ => none

/-- The column `width (bits)` of 10_state.md R22. -/
def Reg.width : Reg → Nat
  | .cfg => 9 | .cmd => 8 | .status => 6
  | .code => 8 | .seq => 2 | .mode => 1 | .blen => 16
  | .cap => 16 | .rlen => 16 | .soff => 16 | .slen => 16
  | .olen => 16 | .rcode => 8 | .rctrl => 8 | .raddr => 8
  | .poff => 16 | .plen => 16 | .trl => 16
  | .rkind => 2 | .rerr => 8 | .idVendor => 24 | .idModel => 8
  | .idVersion => 8 | .idSerial => 32 | .idFw => 24
  | .qcount => 16

/-- The column `host access` of 10_state.md R22. -/
def Reg.access : Reg → Access
  | .cfg => .readWrite | .cmd => .trigger | .status => .readOnly
  | .code => .readWrite | .seq => .readWrite | .mode => .readWrite | .blen => .readWrite
  | .cap => .readWrite | .rlen => .readWrite | .soff => .readWrite | .slen => .readWrite
  | .olen => .readOnly | .rcode => .readOnly | .rctrl => .readOnly | .raddr => .readOnly
  | .poff => .readOnly | .plen => .readOnly | .trl => .readOnly
  | .rkind => .readOnly | .rerr => .readOnly | .idVendor => .readWrite | .idModel => .readWrite
  | .idVersion => .readWrite | .idSerial => .readWrite | .idFw => .readWrite
  | .qcount => .readOnly

/-- The unit a register belongs to (10_state.md R22, column `class`; R20). -/
def Reg.part : Reg → Part
  | .rkind => .unitR | .rerr => .unitR | .idVendor => .unitR | .idModel => .unitR
  | .idVersion => .unitR | .idSerial => .unitR | .idFw => .unitR
  | .qcount => .unitQ
  | .cfg => .base | .cmd => .base | .status => .base
  | .code => .base | .seq => .base | .mode => .base | .blen => .base
  | .cap => .base | .rlen => .base | .soff => .base | .slen => .base
  | .olen => .base | .rcode => .base | .rctrl => .base | .raddr => .base
  | .poff => .base | .plen => .base | .trl => .base

/-- STATUS as the host reads it: QV "reads 0 when HAS_Q is false" (10_state.md R27). -/
def State.visibleStatus (s : State) : BitVec 6 :=
  packStatus (statusErr s.status) (statusRV s.status) (statusQV s.status && s.params.hasQ)

/-- A register's value, zero-extended to 32 bits (10_state.md R22). CMD reads 0 (R24). -/
def State.readReg (s : State) : Reg → HostWord
  | .cfg => s.cfg.setWidth 32
  | .cmd => 0
  | .status => s.visibleStatus.setWidth 32
  | .code => s.code.setWidth 32
  | .seq => s.seq.setWidth 32
  | .mode => s.mode.setWidth 32
  | .blen => s.blen.setWidth 32
  | .cap => s.cap.setWidth 32
  | .rlen => s.rlen.setWidth 32
  | .soff => s.soff.setWidth 32
  | .slen => s.slen.setWidth 32
  | .olen => s.olen.setWidth 32
  | .rcode => s.rcode.setWidth 32
  | .rctrl => s.rctrl.setWidth 32
  | .raddr => s.raddr.setWidth 32
  | .poff => s.poff.setWidth 32
  | .plen => s.plen.setWidth 32
  | .trl => s.trl.setWidth 32
  | .rkind => s.rkind.setWidth 32
  | .rerr => s.rerr.setWidth 32
  | .idVendor => s.idVendor.setWidth 32
  | .idModel => s.idModel.setWidth 32
  | .idVersion => s.idVersion.setWidth 32
  | .idSerial => s.idSerial
  | .idFw => s.idFw.setWidth 32
  | .qcount => s.qcount.setWidth 32

/-- The WARL clamp of CAP and RLEN: `min(v[15:0], limit)` (10_state.md R34, R35). -/
def clamp16 (v : HostWord) (limit : Nat) : BitVec 16 :=
  BitVec.ofNat 16 (min (v.setWidth 16).toNat limit)

/-- A host write to a register that is present: the low bits of `v` (10_state.md R22, R30 to R36, 92 D30), clamped for
the WARL registers; a write to RLEN clears STATUS.RV (R28, R35). A read-only register keeps its value, and CMD stores
nothing (the operation it starts is `step`'s). -/
def State.writeReg (s : State) (v : HostWord) : Reg → State
  | .cfg => { s with cfg := v.setWidth 9 }
  | .cmd => s
  | .status => s
  | .code => { s with code := v.setWidth 8 }
  | .seq => { s with seq := v.setWidth 2 }
  | .mode => { s with mode := v.setWidth 1 }
  | .blen => { s with blen := v.setWidth 16 }
  | .cap => { s with cap := clamp16 v s.params.txCap }
  | .rlen => ({ s with rlen := clamp16 v s.params.rxCap }).setRV false
  | .soff => { s with soff := v.setWidth 16 }
  | .slen => { s with slen := v.setWidth 16 }
  | .olen => s
  | .rcode => s
  | .rctrl => s
  | .raddr => s
  | .poff => s
  | .plen => s
  | .trl => s
  | .rkind => s
  | .rerr => s
  | .idVendor => { s with idVendor := v.setWidth 24 }
  | .idModel => { s with idModel := v.setWidth 8 }
  | .idVersion => { s with idVersion := v.setWidth 8 }
  | .idSerial => { s with idSerial := v }
  | .idFw => { s with idFw := v.setWidth 24 }
  | .qcount => s

/-- `RegRead(n)`: 0 for an unmapped number and for a register of an absent unit (10_state.md R22). -/
def State.regRead (s : State) (n : Nat) : HostWord :=
  match regOfNumber n with
  | some r => if s.params.has r.part then s.readReg r else 0
  | none => 0

/-- `RegWrite(n, v)` but for the operation a write to CMD starts: nothing changes for an unmapped number and for a
register of an absent unit (10_state.md R22). -/
def State.regWrite (s : State) (n : Nat) (v : HostWord) : State :=
  match regOfNumber n with
  | some r => if s.params.has r.part then s.writeReg v r else s
  | none => s

/-! ### Host access to the buffers (20_memory.md R61) -/

/-- `BufRead(S, i)`: S[i], or 0 at or beyond the size. -/
def State.bufRead (s : State) (sp : Space) (i : Nat) : Byte :=
  if i < s.size sp then s.byteAt sp i else 0

/-- `BufWrite(S, i, b)`: S[i] <- b, or nothing at or beyond the size; on RXBUF it clears STATUS.RV (10_state.md R28). -/
def State.bufWrite (s : State) (sp : Space) (i : Nat) (b : Byte) : State :=
  if i < s.size sp then
    match sp with
    | .rxbuf => (s.storeBytes .rxbuf i [b]).setRV false
    | .cbuf => s.storeBytes .cbuf i [b]
    | .txbuf => s.storeBytes .txbuf i [b]
  else s

/-! ### Events -/

/-- Recording what a read transaction returned (log entry 3). -/
def State.record (s : State) (a : Answer) : State := { s with answers := a :: s.answers }

/-- Reset (70_reset_and_hazards.md R215, R216): the table of 10_state.md R47, every buffer byte arbitrary anew. The
parameters, the host's script and the numbering of free values are not the block's state and stay (log entry 9). -/
def State.resetBlock (s : State) : State :=
  { State.resetWith s.params with
    pending := s.pending, answers := s.answers, draws := s.draws, resets := s.resets + 1 }

/-- The OP byte an event writes to CMD, if it is a write to CMD: `v[7:0]` (10_state.md R24). -/
def Event.command : Event → Option Byte
  | .regWrite n v => if n = Reg.number .cmd then some (v.setWidth 8) else none
  | .regRead _ => none
  | .bufRead _ _ => none
  | .bufWrite _ _ _ => none
  | .reset => none
  | .line _ => none

/-- The state with what the host still has to do. -/
def State.withPending (s : State) (rest : List Event) : State := { s with pending := rest }

/-- The next event and the state in which it takes place: the head of the host's script, taken off it. -/
def State.fetch (s : State) : Option (Event × State) :=
  match s.pending with
  | [] => none
  | e :: rest => some (e, s.withPending rest)

end Sys2Proof.Machine
end

