-- ==== Sys2Proof/Machine/Trailer.lean ====
section
/-! DEFINITION. The two trailer functions and trailer selection (40_trailer.md R110 to R114, R124), and the four
standalone trailer operations CKSUM8.GEN, CKSUM8.CHK, CRC16.GEN, CRC16.CHK (R115 to R120). -/

namespace Sys2Proof.Machine

/-! ### The functions -/

/-- One step of the checksum accumulator: addition modulo 256 (40_trailer.md R110). -/
def ckStep (a b : Byte) : Byte := a + b

/-- The checksum-8 of a byte sequence: the two's complement of the sum of its bytes (R111). -/
def cksum8 (bs : List Byte) : Byte := -(bs.foldl ckStep 0)

/-- One of the eight shifts of a CRC step: left by one, and the polynomial 0x1021 when bit 15 was 1 (R112). -/
def crcShift (c : BitVec 16) : BitVec 16 :=
  if c.getLsbD 15 then (c <<< 1) ^^^ 0x1021#16 else c <<< 1

/-- `n` shifts of a CRC step. -/
def crcShifts : Nat → BitVec 16 → BitVec 16
  | 0, c => c
  | n + 1, c => crcShifts n (crcShift c)

/-- One step of the CRC accumulator: the byte enters at bits 15:8, then eight shifts (R112). -/
def crcStep (c : BitVec 16) (b : Byte) : BitVec 16 := crcShifts 8 (c ^^^ (b ++ (0 : Byte)))

/-- The CRC-16 of a byte sequence: `crcStep` folded from the initial value 0x1D0F (R113). -/
def crc16 (bs : List Byte) : BitVec 16 := bs.foldl crcStep 0x1D0F#16

/-- An entry of the byte-wise table of R124: the eight shifts applied to `i * 256`. -/
def crcTable (i : Byte) : BitVec 16 := crcShifts 8 (i ++ (0 : Byte))

/-- `tlen(m)`: 1 for a checksum-8, 2 for a CRC-16 (R114). -/
def tlen (m : BitVec 1) : Nat := if m = 1 then 2 else 1

/-- The trailer as a number, as TRL shows it: the checksum zero-extended, the CRC not byte-swapped (10_state.md R43). -/
def tvalue (m : BitVec 1) (span : List Byte) : BitVec 16 :=
  if m = 1 then crc16 span else (cksum8 span).setWidth 16

/-- `tbytes(m, s)`: the trailer as it stands on the wire, the CRC low byte first (R114). -/
def tbytes (m : BitVec 1) (span : List Byte) : List Byte :=
  if m = 1 then [lowByte (crc16 span), highByte (crc16 span)] else [cksum8 span]

/-- `tok(m, s, t)`: the received trailer is the computed one (R114). -/
def tok (m : BitVec 1) (span received : List Byte) : Bool := decide (received = tbytes m span)

/-! ### The standalone operations -/

/-- The index just behind the span of a standalone operation, `x[SOFF] + x[SLEN]`, over the naturals (R115). -/
def State.spanEnd (s : State) : Nat := s.soff.toNat + s.slen.toNat

/-- A GEN operation for the trailer mode `m` (40_trailer.md R115 to R117, R119). -/
def State.generateTrailer (s : State) (m : BitVec 1) : Host.Outcome State Fault Refusal :=
  if s.params.txCap < s.spanEnd + tlen m then
    ({ s with trl := 0 }).raise .capacityExceeded
  else
    let span := s.span .txbuf s.soff.toNat s.slen.toNat
    ({ s.storeBytes .txbuf s.spanEnd (tbytes m span) with trl := tvalue m span }).done

/-- A CHK operation for the trailer mode `m` (40_trailer.md R115, R116, R118, R120): TRL holds the computed trailer, also
when the comparison fails. -/
def State.checkTrailer (s : State) (m : BitVec 1) : Host.Outcome State Fault Refusal :=
  if s.rlen.toNat < s.spanEnd + tlen m then
    ({ s with trl := 0 }).raise .lengthMismatch
  else
    s.touchBelow .rxbuf (s.spanEnd + tlen m)
      (let span := s.span .rxbuf s.soff.toNat s.slen.toNat
       let s' := { s with trl := tvalue m span }
       if tok m span (s.span .rxbuf s.spanEnd (tlen m)) then s'.done else s'.raise .integrityError)

/-- CKSUM8.GEN (40_trailer.md R117). -/
def execCksum8Gen (s : State) : Host.Outcome State Fault Refusal := s.generateTrailer 0

/-- CKSUM8.CHK (40_trailer.md R118). -/
def execCksum8Chk (s : State) : Host.Outcome State Fault Refusal := s.checkTrailer 0

/-- CRC16.GEN (40_trailer.md R119). -/
def execCrc16Gen (s : State) : Host.Outcome State Fault Refusal := s.generateTrailer 1

/-- CRC16.CHK (40_trailer.md R120). -/
def execCrc16Chk (s : State) : Host.Outcome State Fault Refusal := s.checkTrailer 1

end Sys2Proof.Machine
end

