-- ==== Sys2Proof/Machine/Operands.lean ====
section
/-! DEFINITION. The operand forms of the operations (30_encoding.md R96): the command BUILD and QENQ take from CODE,
BLEN and CBUF (41_build.md R130), the fields of a frame in RXBUF that DECODE reads (30_encoding.md R80, R91, R93), and
the payload view RPLY reads (43_companions.md R174). The operands SOFF, SLEN of the trailer operations are
`State.spanEnd` and the spans of Machine/Trailer.lean. -/

namespace Sys2Proof.Machine

/-- MARK, the byte at index 0 of a frame (30_encoding.md R81). -/
def markByte : Byte := 0xFF#8

/-- SOM, the byte at index 1 of a frame (30_encoding.md R81). -/
def somByte : Byte := 0x53#8

/-- The command's body, CBUF[0..BLEN) (10_state.md R29; 41_build.md R130). -/
def State.body (s : State) : List Byte := s.span .cbuf 0 s.blen.toNat

/-- The command as a queue entry, with a copy of the body (43_companions.md R167). -/
def State.command (s : State) : QEntry := { code := s.code, body := s.body }

/-- `need`: the length of the frame BUILD produces, 7 + BLEN + T, over the naturals (41_build.md R131). -/
def State.frameLength (s : State) : Nat := 7 + s.blen.toNat + tlen s.mode

/-- MARK to CODE of the frame BUILD produces, LEN being one less than its length (30_encoding.md R80, R84;
41_build.md R131). -/
def State.frameHeader (s : State) : List Byte :=
  let len := BitVec.ofNat 16 (s.frameLength - 1)
  [markByte, somByte, addressByte s.cfg, lowByte len, highByte len, controlByte s.seq s.mode, s.code]

/-- The span of the frame BUILD produces: SOM through the last body byte (30_encoding.md R90). -/
def State.frameSpan (s : State) : List Byte := s.frameHeader.tail ++ s.body

/-- The frame BUILD produces (41_build.md R131). -/
def State.frame (s : State) : List Byte :=
  s.frameHeader ++ s.body ++ tbytes s.mode s.frameSpan

/-- The received control byte RXBUF[5] (30_encoding.md R80). -/
def State.rxCtrl (s : State) : Byte := s.byteAt .rxbuf 5

/-- The received length field, little-endian (30_encoding.md R83). -/
def State.rxLen (s : State) : BitVec 16 := s.wordAt .rxbuf 3

/-- The trailer length of the received frame, from its control byte (30_encoding.md R86). -/
def State.rxTlen (s : State) : Nat := tlen (ctrlMode s.rxCtrl)

/-- The span of the received frame, RXBUF[1..n-T) (42_decode.md R146, R149). -/
def State.rxSpan (s : State) : List Byte := s.span .rxbuf 1 (s.rlen.toNat - s.rxTlen - 1)

/-- The received trailer, RXBUF[n-T..n) (42_decode.md R146). -/
def State.rxTrailer (s : State) : List Byte := s.span .rxbuf (s.rlen.toNat - s.rxTlen) s.rxTlen

/-- Byte `k` of the payload view, RXBUF[POFF + k] (10_state.md R42; 43_companions.md R174). -/
def State.payloadByte (s : State) (k : Nat) : Byte := s.byteAt .rxbuf (s.poff.toNat + k)

/-- Delivering a queue entry into the operand registers of BUILD: CODE, BLEN and CBUF[0..|b|) (43_companions.md R168). -/
def State.deliver (s : State) (e : QEntry) : State :=
  { s.storeBytes .cbuf 0 e.body with code := e.code, blen := BitVec.ofNat 16 e.body.length }

end Sys2Proof.Machine
end

