-- ==== Sys2Proof/Machine/Build.lean ====
section
/-! DEFINITION. The frame encoder BUILD (41_build.md R130 to R138). -/

namespace Sys2Proof.Machine

/-- PayloadTooLarge holds: BLEN > MAX_BODY (41_build.md R131). -/
def State.tooLarge (s : State) : Bool := decide (s.params.maxBody < s.blen.toNat)

/-- CapacityExceeded holds: 7 + BLEN + T > CAP (41_build.md R131). -/
def State.tooSmall (s : State) : Bool := decide (s.cap.toNat < s.frameLength)

/-- The error a failing BUILD reports: whichever alone holds; when both hold, as BUILD_ERR_ORDER says, `either` being a
free choice (41_build.md R132; log entry 5). -/
def State.buildError (s : State) : Err :=
  if s.tooLarge && s.tooSmall then
    match s.params.buildErrOrder with
    | .capacityFirst => .capacityExceeded
    | .payloadFirst => .payloadTooLarge
    | .either => if Config.freeErrorChoice s.draws then .payloadTooLarge else .capacityExceeded
  else if s.tooLarge then .payloadTooLarge
  else .capacityExceeded

/-- A failed BUILD: OLEN 0 and every byte of TXBUF[0..CAP) a free value (41_build.md R131, R134; log entry 4). -/
def State.buildFail (s : State) : Host.Outcome State Fault Refusal :=
  let drawn := (List.range s.cap.toNat).map (fun k => Config.freeByte (s.draws + k))
  ({ s.storeBytes .txbuf 0 drawn with olen := 0, draws := s.draws + s.cap.toNat + 1 }).raise s.buildError

/-- A successful BUILD: the frame at TXBUF[0..need), OLEN its length (41_build.md R131). -/
def State.buildFrame (s : State) : Host.Outcome State Fault Refusal :=
  ({ s.storeBytes .txbuf 0 s.frame with olen := BitVec.ofNat 16 s.frameLength }).done

/-- BUILD (41_build.md R131). It touches TXBUF below the frame's length, or below CAP when it fails. -/
def execBuild (s : State) : Host.Outcome State Fault Refusal :=
  if s.tooLarge || s.tooSmall then s.touchBelow .txbuf s.cap.toNat s.buildFail
  else s.touchBelow .txbuf s.frameLength s.buildFrame

end Sys2Proof.Machine
end

