-- ==== Sys2Proof/Machine/FrameDecode.lean ====
section
/-! DEFINITION. The frame decoder and validator DECODE (42_decode.md R145 to R156). -/

namespace Sys2Proof.Machine

/-- The four checks of DECODE in their order; the first that fails names the error (42_decode.md R146 to R150). -/
def State.decodeError (s : State) : Option Err :=
  let n := s.rlen.toNat
  -- check 1: start marker
  if n < 2 then some .badSyncByte
  else if s.params.checkMark && s.byteAt .rxbuf 0 != markByte then some .badSyncByte
  else if s.byteAt .rxbuf 1 != somByte then some .badSyncByte
  -- check 2: declared length
  else if n < 6 then some .lengthMismatch
  else if s.rxLen.toNat ≠ n - 1 then some .lengthMismatch
  else if n < 7 + s.rxTlen then some .lengthMismatch
  -- check 3: integrity trailer
  else if !tok (ctrlMode s.rxCtrl) s.rxSpan s.rxTrailer then some .integrityError
  -- check 4: address
  else if cfgAchk s.cfg && byteAddr (s.byteAt .rxbuf 2) != cfgAddr s.cfg then some .addressMismatch
  else none

/-- A failed DECODE: its result group and RV cleared, then the error (42_decode.md R151). -/
def State.decodeFail (s : State) (e : Err) : Host.Outcome State Fault Refusal :=
  (({ s with rcode := 0, rctrl := 0, raddr := 0, poff := 0, plen := 0 }).setRV false).raise e

/-- A successful DECODE (42_decode.md R146, R152). -/
def State.decodeSucceed (s : State) : Host.Outcome State Fault Refusal :=
  (({ s with
      rcode := s.byteAt .rxbuf 6
      rctrl := s.rxCtrl
      raddr := s.byteAt .rxbuf 2
      poff := 7
      plen := BitVec.ofNat 16 (s.rlen.toNat - 7 - s.rxTlen) }).setRV true).done

/-- DECODE (42_decode.md R146). It touches RXBUF below RLEN. -/
def execDecode (s : State) : Host.Outcome State Fault Refusal :=
  s.touchBelow .rxbuf s.rlen.toNat
    (match s.decodeError with
     | some e => s.decodeFail e
     | none => s.decodeSucceed)

end Sys2Proof.Machine
end

