-- ==== Sys2Proof/Machine/Queue.lean ====
section
/-! DEFINITION. The command queue, unit Q: QENQ, QPEEK, QDEQ, QRST (43_companions.md R165 to R172). -/

namespace Sys2Proof.Machine

/-- The value of QCOUNT for a queue: its length (43_companions.md R166); beyond 16 bits, which the spec does not state, a
free value (log entry 8). -/
def countWord (q : List QEntry) : BitVec 16 :=
  if q.length < 65536 then BitVec.ofNat 16 q.length else Config.wideCount q.length

/-- `Q <- q; x[QCOUNT] <- |Q|` (43_companions.md R167, R170, R171). -/
def State.setQueue (s : State) (q : List QEntry) : State :=
  { s with queue := q, qcount := countWord q }

/-- QENQ (43_companions.md R167). -/
def execQenq (s : State) : Host.Outcome State Fault Refusal :=
  s.whenPresent .qenq
    (if s.params.maxBody < s.blen.toNat then s.raise .payloadTooLarge
     else if s.queue.length = s.params.qCap then s.raise .queueFull
     else (s.setQueue (s.queue ++ [s.command])).done)

/-- QPEEK (43_companions.md R168): an empty queue is QV 0 and no error (R169). -/
def execQpeek (s : State) : Host.Outcome State Fault Refusal :=
  s.whenPresent .qpeek
    (match s.queue with
     | [] => (s.setQV false).done
     | e :: _ => s.touchBelow .cbuf e.body.length ((s.deliver e).setQV true).done)

/-- QDEQ (43_companions.md R170): as QPEEK, and the head is removed. -/
def execQdeq (s : State) : Host.Outcome State Fault Refusal :=
  s.whenPresent .qdeq
    (match s.queue with
     | [] => (s.setQV false).done
     | e :: rest => s.touchBelow .cbuf e.body.length (((s.deliver e).setQueue rest).setQV true).done)

/-- QRST (43_companions.md R171). -/
def execQrst (s : State) : Host.Outcome State Fault Refusal :=
  s.whenPresent .qrst ((s.setQueue []).setQV false).done

end Sys2Proof.Machine
end

