-- ==== Sys2Proof/Machine/Reply.lean ====
section
/-! DEFINITION. The reply interpreter, unit R: RPLY (43_companions.md R174 to R182). -/

namespace Sys2Proof.Machine

/-- `x[RKIND] <- k; x[RERR] <- e` (43_companions.md R176, R178). -/
def State.setReply (s : State) (kind : BitVec 2) (err : BitVec 8) : State :=
  { s with rkind := kind, rerr := err }

/-- A failed RPLY: RKIND and RERR cleared, then the error; the identity record stays (43_companions.md R178, R179). -/
def State.replyFail (s : State) (e : Err) : Host.Outcome State Fault Refusal := (s.setReply 0 0).raise e

/-- The identity record from the 12 payload bytes: vendor and serial little-endian, the firmware triple with its first
wire byte most significant (43_companions.md R177, R180). -/
def State.setIdentity (s : State) : State :=
  { s with
    idVendor := s.payloadByte 2 ++ (s.payloadByte 1 ++ s.payloadByte 0)
    idModel := s.payloadByte 3
    idVersion := s.payloadByte 4
    idSerial := s.payloadByte 8 ++ (s.payloadByte 7 ++ (s.payloadByte 6 ++ s.payloadByte 5))
    idFw := s.payloadByte 9 ++ (s.payloadByte 10 ++ s.payloadByte 11) }

/-- The interpretation of a validated reply (43_companions.md R178): PDID, NAK, ACK, any other code. -/
def State.interpret (s : State) : Host.Outcome State Fault Refusal :=
  if s.rcode = s.params.codePdid then
    if s.plen.toNat < 12 then s.replyFail .shortPayload
    else (s.setIdentity.setReply 3 0).done
  else if s.rcode = s.params.codeNak then
    if s.plen.toNat < 1 then s.replyFail .shortPayload
    else (s.setReply 2 (s.payloadByte 0)).done
  else if s.rcode = s.params.codeAck then (s.setReply 1 0).done
  else (s.setReply 0 0).done

/-- RPLY (43_companions.md R178): without a validated reply it is IllegalOp, with RKIND and RERR cleared
(60_exceptions.md R197). It touches RXBUF below POFF + PLEN. -/
def execRply (s : State) : Host.Outcome State Fault Refusal :=
  s.whenPresent .rply
    (if statusRV s.status then s.touchBelow .rxbuf (s.poff.toNat + s.plen.toNat) s.interpret
     else s.replyFail .illegalOp)

end Sys2Proof.Machine
end

