-- ==== Sys2Proof/Machine/Dispatch.lean ====
section
/-! DEFINITION. One arm per operation of 30_encoding.md R94, each a direct call of its meaning. -/

namespace Sys2Proof.Machine

def exec (i : Instr) (s : State) : Host.Outcome State Fault Refusal :=
  match i with
  | .cksum8Gen => Sys2Proof.Machine.execCksum8Gen s
  | .cksum8Chk => Sys2Proof.Machine.execCksum8Chk s
  | .crc16Gen => Sys2Proof.Machine.execCrc16Gen s
  | .crc16Chk => Sys2Proof.Machine.execCrc16Chk s
  | .build => Sys2Proof.Machine.execBuild s
  | .decode => Sys2Proof.Machine.execDecode s
  | .qenq => Sys2Proof.Machine.execQenq s
  | .qpeek => Sys2Proof.Machine.execQpeek s
  | .qdeq => Sys2Proof.Machine.execQdeq s
  | .qrst => Sys2Proof.Machine.execQrst s
  | .rply => Sys2Proof.Machine.execRply s

end Sys2Proof.Machine
end

