-- ==== Sys2Proof/Machine/Script.lean ====
section
/-! DEFINITION. The script notation of 30_encoding.md R98 and its pseudo-instructions (R99): each line expands to host
transactions when the host reaches it. After it, what an event other than a write to CMD does. -/

namespace Sys2Proof.Machine

/-- `WR <REG>, v`. -/
def writeEvent (r : Reg) (v : HostWord) : Event := .regWrite r.number v

/-- `OP <mnemonic>`: the operation's code written to CMD. -/
def opEvent (i : Instr) : Event := writeEvent .cmd ((encode i).setWidth 32)

/-- `FILL`: one `PUT` per byte, at rising indices. -/
def fillEvents (sp : Space) : Nat → List Byte → List Event
  | _, [] => []
  | i, b :: bs => .bufWrite sp i b :: fillEvents sp (i + 1) bs

/-- A byte count as the host writes it. -/
def countValue (bs : List Byte) : HostWord := BitVec.ofNat 32 bs.length

/-- The transactions of a line when the host reaches it in state `s`. Only LOOP looks at `s`: the host reads OLEN and
the bytes it copies (30_encoding.md R99). -/
def ScriptLine.expand (s : State) : ScriptLine → List Event
  | .wr r v => [writeEvent r v]
  | .wrCfg addr dir achk =>
    [writeEvent .cfg ((BitVec.ofBool achk ++ (BitVec.ofBool dir ++ addr)).setWidth 32)]
  | .rd r => [.regRead r.number]
  | .put sp i b => [.bufWrite sp i b]
  | .get sp i => [.bufRead sp i]
  | .op i => [opEvent i]
  | .fill sp i bs => fillEvents sp i bs
  | .body bs => fillEvents .cbuf 0 bs ++ [writeEvent .blen (countValue bs)]
  | .recv bs => fillEvents .rxbuf 0 bs ++ [writeEvent .rlen (countValue bs)]
  | .loop =>
    (List.range s.olen.toNat).flatMap
        (fun i => [Event.bufRead .txbuf i, Event.bufWrite .rxbuf i (s.bufRead .txbuf i)]) ++
      [writeEvent .rlen (s.olen.setWidth 32)]
  | .buildLine code seq mode cap =>
    [writeEvent .code (code.setWidth 32), writeEvent .seq (seq.setWidth 32),
      writeEvent .mode (mode.setWidth 32), writeEvent .cap (cap.setWidth 32), opEvent .build]
  | .decodeLine => [opEvent .decode]
  | .spanLine off len => [writeEvent .soff (off.setWidth 32), writeEvent .slen (len.setWidth 32)]

/-- The state with a line put behind what the host already has to do. The host reads OLEN and TXBUF for it only once it
has done all that. -/
def State.issue (s : State) (l : ScriptLine) : State := { s with pending := s.pending ++ [.line l] }

/-- The host reaches a line: the line's transactions come next. The block does nothing (00_scope.md R11). -/
def State.reach (s : State) (l : ScriptLine) : State := s.withPending (l.expand s ++ s.pending)

/-- What an event does, in the state with that event taken off the host's list; a write to CMD has its operation in
`step`. -/
def State.access (s : State) : Event → State
  | .regRead n => s.record (.reg (s.regRead n))
  | .regWrite n v => s.regWrite n v
  | .bufRead sp i => s.record (.byte (s.bufRead sp i))
  | .bufWrite sp i b => s.bufWrite sp i b
  | .reset => s.resetBlock
  | .line l => s.reach l

end Sys2Proof.Machine
end

