-- ==== Sys2Proof/Machine/Step.lean ====
section
/-! DEFINITION. One step of the machine: the host's next transaction, with the whole operation it starts when it is a
write to CMD (10_state.md R26; 20_memory.md R68), or reaching the next script line (30_encoding.md R99). -/

namespace Sys2Proof.Machine

/-- One step. The block acts only when the host does (00_scope.md R11): with no transaction left it stays as it is
(70_reset_and_hazards.md R229). A write to CMD runs the operation its OP byte selects (10_state.md R24), or is an
illegal operation (30_encoding.md R95). Parameters outside R6's ranges are refused (93 U5; log entry 7). -/
def step (s : State) : Host.Outcome State Fault Refusal :=
  if s.params.legal then
    match s.fetch with
    | none => .next s
    | some (e, s') =>
      match e.command with
      | none => .next (s'.access e)
      | some op =>
        match decodeOp op with
        | .ok i => exec i s'
        | .error _ => s'.illegalOp
  else .refused .illegalConfiguration

/-- `s` with a write of the operation code `w` to CMD as the host's next transaction, in front of what the host already
has to do (log entry 3). -/
def State.withFetchWord (s : State) (nbits w : Nat) : State :=
  { s with pending := .regWrite (Reg.number .cmd) (BitVec.ofNat 32 (w % 2 ^ nbits)) :: s.pending }

end Sys2Proof.Machine
end

