-- ==== Sys2Proof/Safety.lean ====
section
/-! DEFINITION. What a state of a sound run looks like: the invariants the statements use. -/

namespace Sys2Proof.Machine

/-- The buffers hold the canonical form, within their sizes (20_memory.md R60). -/
structure State.BuffersWf (s : State) : Prop where
  sorted : ∀ sp, (s.mem sp).wf
  inside : ∀ sp, (s.mem sp).within (s.size sp)

/-- Every entry of the queue fits CBUF, and the queue its bound (43_companions.md R165, R172 (d)); without unit Q it is
empty. -/
structure State.QueueWf (s : State) : Prop where
  bodies : ∀ e ∈ s.queue, e.body.length ≤ s.params.maxBody
  bound : s.queue.length ≤ s.params.qCap
  absent : s.params.hasQ = false → s.queue = []
  count : s.queue.length < 65536 → s.qcount.toNat = s.queue.length

/-- The invariant of every run: what 20_memory.md R62 derives its bounds from, the queue's invariants, and the range of
STATUS.ERR (60_exceptions.md R191: 10 to 15 are never written). -/
structure State.Inv (s : State) : Prop where
  legal : s.params.legal = true
  buffers : s.BuffersWf
  queueWf : s.QueueWf
  capFits : s.cap.toNat ≤ s.params.txCap
  rlenFits : s.rlen.toNat ≤ s.params.rxCap
  viewFits : statusRV s.status = true → s.poff.toNat + s.plen.toNat ≤ s.rlen.toNat
  errRange : (statusErr s.status).toNat ≤ 9

/-- RXBUF[0..RLEN) is a frame that passes DECODE's checks 1 to 3 (42_decode.md R146), and the DECODE result group
describes it (R152). -/
structure State.ViewDescribes (s : State) : Prop where
  room : 7 + s.rxTlen ≤ s.rlen.toNat
  mark : s.params.checkMark = true → s.byteAt .rxbuf 0 = 0xFF#8
  som : s.byteAt .rxbuf 1 = 0x53#8
  length : s.rxLen.toNat = s.rlen.toNat - 1
  trailer : tok (ctrlMode s.rxCtrl) s.rxSpan s.rxTrailer = true
  codeIs : s.rcode = s.byteAt .rxbuf 6
  ctrlIs : s.rctrl = s.byteAt .rxbuf 5
  addrIs : s.raddr = s.byteAt .rxbuf 2
  offIs : s.poff = 7
  lenIs : s.plen.toNat = s.rlen.toNat - 7 - s.rxTlen

/-- STATUS.RV tells the truth: while it is 1, the result registers describe a validated frame that still stands in RXBUF
(10_state.md R27, R28; 42_decode.md R151). -/
def State.ViewSound (s : State) : Prop := statusRV s.status = true → s.ViewDescribes

/-! ### Words the statements use -/

/-- Every register of 10_state.md R22 that stores a value holds 0 (CMD stores none, R24). -/
def State.RegistersZero (s : State) : Prop :=
  (s.cfg = 0 ∧ s.status = 0) ∧
    (s.code = 0 ∧ s.seq = 0 ∧ s.mode = 0 ∧ s.blen = 0 ∧ s.cap = 0 ∧ s.rlen = 0 ∧ s.soff = 0 ∧ s.slen = 0) ∧
    (s.olen = 0 ∧ s.rcode = 0 ∧ s.rctrl = 0 ∧ s.raddr = 0 ∧ s.poff = 0 ∧ s.plen = 0 ∧ s.trl = 0) ∧
    (s.rkind = 0 ∧ s.rerr = 0 ∧ s.idVendor = 0 ∧ s.idModel = 0 ∧ s.idVersion = 0 ∧ s.idSerial = 0 ∧ s.idFw = 0) ∧
    s.qcount = 0

/-- Every byte of a space at an index outside `lo` to `hi - 1` reads the same in `t` as in `s`. -/
def State.SameOutside (s t : State) (sp : Space) (lo hi : Nat) : Prop :=
  ∀ i, ¬ (lo ≤ i ∧ i < hi) → t.byteAt sp i = s.byteAt sp i

/-- Every byte of a space reads the same in `t` as in `s`. -/
def State.SameBytes (s t : State) (sp : Space) : Prop := ∀ i, t.byteAt sp i = s.byteAt sp i

/-- Every flag of STATUS but ERR is the same in `t` as in `s`. -/
def State.SameFlags (s t : State) : Prop :=
  statusRV t.status = statusRV s.status ∧ statusQV t.status = statusQV s.status

/-- STATUS.ERR as a number. -/
def State.err (s : State) : Nat := (statusErr s.status).toNat

/-- A byte with bit `k` flipped. -/
def flipByte (b : Byte) (k : Nat) : Byte := b ^^^ (1#8 <<< k)

/-- A byte sequence with bit `k` of byte `i` flipped. -/
def flipBit (bs : List Byte) (i k : Nat) : List Byte := bs.modify i (fun b => flipByte b k)

/-- The commands that `n` QDEQs in a row deliver into CODE, BLEN and CBUF. -/
def State.drain : Nat → State → List QEntry
  | 0, _ => []
  | n + 1, s =>
    match exec .qdeq s with
    | .next t => t.command :: State.drain n t
    | .fault _ => []
    | .refused _ => []

end Sys2Proof.Machine
end

