-- ==== Sys2Proof/Certificates/Slice0/Obligations.lean ====
section
/-! DEFINITION. The statements for the provers. Each one's docstring names the rule of spec/ it formalises. Every
statement is about every state, and so about every configuration of 00_scope.md R6 (log entry 1) and every content of
the buffers; none rests on the value of a free constant of Config. -/

open Sys2Proof Sys2Proof.Machine

/-! ### Operation codes and the step -/

/-- 30_encoding.md R94: the codes of the table select their operations, and their neighbours select none (R95). -/
def Obligations.OpCodesSelectOperations : Prop :=
  decodeOp 0x01#8 = .ok .cksum8Gen ∧ decodeOp 0x02#8 = .ok .cksum8Chk ∧ decodeOp 0x03#8 = .ok .crc16Gen ∧
    decodeOp 0x04#8 = .ok .crc16Chk ∧ decodeOp 0x10#8 = .ok .build ∧ decodeOp 0x11#8 = .ok .decode ∧
    decodeOp 0x20#8 = .ok .qenq ∧ decodeOp 0x21#8 = .ok .qpeek ∧ decodeOp 0x22#8 = .ok .qdeq ∧
    decodeOp 0x23#8 = .ok .qrst ∧ decodeOp 0x30#8 = .ok .rply ∧
    decodeOp 0x00#8 = .error (.unassignedOp 0x00#8) ∧ decodeOp 0x05#8 = .error (.unassignedOp 0x05#8) ∧
    decodeOp 0x12#8 = .error (.unassignedOp 0x12#8) ∧ decodeOp 0xFF#8 = .error (.unassignedOp 0xFF#8)

/-- 30_encoding.md R94: decoding an operation's code gives it back, and a byte that decodes is that operation's code. -/
def Obligations.OpCodeRoundTrip : Prop :=
  (∀ i : Instr, decodeOp (encode i) = .ok i) ∧
    ∀ (op : Byte) (i : Instr), decodeOp op = .ok i → encode i = op

/-- 10_state.md R24, R26: a write to CMD is one step, and the step is the selected operation on the state with that
transaction taken off the host's list; bits 31:8 of the written value are ignored. -/
def Obligations.StepRunsSelectedOperation : Prop :=
  ∀ (s : State) (v : HostWord) (rest : List Event) (i : Instr),
    s.params.legal = true → s.pending = .regWrite 0x01 v :: rest →
    decodeOp (BitVec.ofNat 8 (v.toNat % 256)) = .ok i →
    step s = exec i { s with pending := rest }

/-- 30_encoding.md R95, 60_exceptions.md R197: every value that selects no operation of this configuration sets ERR to 9
and changes nothing else. -/
def Obligations.UnassignedOpOnlySetsErr : Prop :=
  ∀ (s : State) (v : HostWord) (rest : List Event) (op : Nat),
    s.params.legal = true → s.pending = .regWrite 0x01 v :: rest → op = v.toNat % 256 →
    (op = 0x00 ∨ (0x05 ≤ op ∧ op ≤ 0x0F) ∨ (0x12 ≤ op ∧ op ≤ 0x1F) ∨ (0x24 ≤ op ∧ op ≤ 0x2F) ∨
      (0x31 ≤ op ∧ op ≤ 0xFF) ∨ (0x20 ≤ op ∧ op ≤ 0x23 ∧ s.params.hasQ = false) ∨
      (op = 0x30 ∧ s.params.hasR = false)) →
    ∃ t, step s = .next t ∧ t.err = 9 ∧ s.SameFlags t ∧ t = { s with pending := rest, status := t.status }

/-- 30_encoding.md R95: an operation of an absent unit answers a next state in which only ERR changed, to 9. -/
def Obligations.AbsentUnitOperationsAreIllegal : Prop :=
  ∀ (s : State) (i : Instr),
    (s.params.hasQ = false ∧ (i = .qenq ∨ i = .qpeek ∨ i = .qdeq ∨ i = .qrst)) ∨
      (s.params.hasR = false ∧ i = .rply) →
    ∃ t, exec i s = .next t ∧ t.err = 9 ∧ s.SameFlags t ∧ t = { s with status := t.status }

/-- 00_scope.md R11: with no transaction left the block does not act. The model's idle step (log entry 3). -/
def Obligations.BlockNeverActsAlone : Prop :=
  ∀ s : State, s.params.legal = true → s.pending = [] → step s = .next s

/-- The model's refusal of a configuration outside the ranges of 00_scope.md R6 (93 U5; log entry 7). -/
def Obligations.IllegalConfigurationIsRefused : Prop :=
  ∀ s : State, s.params.legal = false → step s = .refused .illegalConfiguration

/-- 70_reset_and_hazards.md R228, R229: from a state of a sound run, the host's finite script runs to its end and leaves a
state of a sound run. A list of transactions alone takes one step each. That the script stands in a list, and that reaching
a line of it is a step of its own, is the model's choice (log entry 3). -/
def Obligations.FiniteScriptRunsToItsEnd : Prop :=
  ∀ s : State, s.Inv →
    ∃ (k : Nat) (t : State), Host.Core.run Sys2Proof.core k s = Host.Outcome.next t ∧ t.pending = [] ∧ t.Inv ∧
      ((∀ e ∈ s.pending, ∀ l, e ≠ .line l) → k = s.pending.length)

/-- 30_encoding.md R99: the script line BUILD is four register writes and the operation, and runs as BUILD on the state
with those operands in CODE, SEQ, MODE and CAP (CAP clamped as 10_state.md R34 says). One more step reaches the line (log
entry 3), and the line's values have the registers' widths (log entry 18): the model's choices. -/
def Obligations.BuildLineSetsOperandsAndBuilds : Prop :=
  ∀ (s : State) (c : Byte) (q : BitVec 2) (m : BitVec 1) (n : BitVec 16) (rest : List Event),
    s.params.legal = true → s.pending = .line (.buildLine c q m n) :: rest →
    Host.Core.run Sys2Proof.core 6 s =
      exec .build { s with pending := rest, code := c, seq := q, mode := m,
                           cap := BitVec.ofNat 16 (min n.toNat s.params.txCap) }

/-! ### Host access -/

/-- 10_state.md R22, R30 to R33, R36, 43_companions.md R176: a host write to a read/write register, by its number (CAP and
RLEN apart, which are WARL), stores the low bits of the value in that register and changes nothing else. -/
def Obligations.RegWriteStoresLowBits : Prop :=
  ∀ (s : State) (n : Nat) (v : HostWord) (rest : List Event),
    s.params.legal = true → s.pending = .regWrite n v :: rest →
    (n = 0x00 → ∃ c, c.toNat = v.toNat % 2 ^ 9 ∧ step s = .next { s with pending := rest, cfg := c }) ∧
    (n = 0x08 → ∃ c, c.toNat = v.toNat % 2 ^ 8 ∧ step s = .next { s with pending := rest, code := c }) ∧
    (n = 0x09 → ∃ c, c.toNat = v.toNat % 2 ^ 2 ∧ step s = .next { s with pending := rest, seq := c }) ∧
    (n = 0x0A → ∃ c, c.toNat = v.toNat % 2 ∧ step s = .next { s with pending := rest, mode := c }) ∧
    (n = 0x0B → ∃ c, c.toNat = v.toNat % 2 ^ 16 ∧ step s = .next { s with pending := rest, blen := c }) ∧
    (n = 0x0E → ∃ c, c.toNat = v.toNat % 2 ^ 16 ∧ step s = .next { s with pending := rest, soff := c }) ∧
    (n = 0x0F → ∃ c, c.toNat = v.toNat % 2 ^ 16 ∧ step s = .next { s with pending := rest, slen := c }) ∧
    (s.params.hasR = true →
      (n = 0x1A → ∃ c, c.toNat = v.toNat % 2 ^ 24 ∧ step s = .next { s with pending := rest, idVendor := c }) ∧
      (n = 0x1B → ∃ c, c.toNat = v.toNat % 2 ^ 8 ∧ step s = .next { s with pending := rest, idModel := c }) ∧
      (n = 0x1C → ∃ c, c.toNat = v.toNat % 2 ^ 8 ∧ step s = .next { s with pending := rest, idVersion := c }) ∧
      (n = 0x1D → step s = .next { s with pending := rest, idSerial := v }) ∧
      (n = 0x1E → ∃ c, c.toNat = v.toNat % 2 ^ 24 ∧ step s = .next { s with pending := rest, idFw := c }))

/-- 10_state.md R34: a write to CAP stores min(v[15:0], TXCAP) and changes nothing else. -/
def Obligations.CapWriteIsClamped : Prop :=
  ∀ (s : State) (v : HostWord) (rest : List Event),
    s.params.legal = true → s.pending = .regWrite 0x0C v :: rest →
    ∃ t, step s = .next t ∧ t.cap.toNat = min (v.toNat % 65536) s.params.txCap ∧
      t = { s with pending := rest, cap := t.cap }

/-- 10_state.md R35, R28: a write to RLEN stores min(v[15:0], RXCAP), clears STATUS.RV whatever the value, and changes no
other field of STATUS and none of RCODE, RCTRL, RADDR, POFF, PLEN. -/
def Obligations.RlenWriteIsClampedAndClearsView : Prop :=
  ∀ (s : State) (v : HostWord) (rest : List Event),
    s.params.legal = true → s.pending = .regWrite 0x0D v :: rest →
    ∃ t, step s = .next t ∧ t.rlen.toNat = min (v.toNat % 65536) s.params.rxCap ∧
      statusRV t.status = false ∧ statusErr t.status = statusErr s.status ∧
      statusQV t.status = statusQV s.status ∧
      t = { s with pending := rest, rlen := t.rlen, status := t.status }

/-- 10_state.md R28: a host write of a byte of RXBUF within its size, and a host write to RLEN, each clear STATUS.RV,
whatever is written, and change no other field of STATUS and none of RCODE, RCTRL, RADDR, POFF, PLEN. -/
def Obligations.ReceiveSideWritesClearView : Prop :=
  ∀ (s : State) (i : Nat) (b : Byte) (v : HostWord) (rest : List Event), s.params.legal = true →
    (s.pending = .bufWrite .rxbuf i b :: rest ∧ i < s.params.rxCap) ∨ s.pending = .regWrite 0x0D v :: rest →
    ∃ t, step s = .next t ∧ statusRV t.status = false ∧ statusErr t.status = statusErr s.status ∧
      statusQV t.status = statusQV s.status ∧ t.rcode = s.rcode ∧ t.rctrl = s.rctrl ∧ t.raddr = s.raddr ∧
      t.poff = s.poff ∧ t.plen = s.plen

/-- 10_state.md R22: a host write to a read-only register, to an unmapped number or to a register of an absent unit, by its
number, changes nothing. -/
def Obligations.IgnoredRegWritesChangeNothing : Prop :=
  ∀ (s : State) (n : Nat) (v : HostWord) (rest : List Event),
    s.params.legal = true → s.pending = .regWrite n v :: rest →
    ((n = 0x02 ∨ (0x10 ≤ n ∧ n ≤ 0x16) ∨ n = 0x18 ∨ n = 0x19 ∨ n = 0x20) ∨
      ((0x03 ≤ n ∧ n ≤ 0x07) ∨ n = 0x17 ∨ n = 0x1F ∨ 0x21 ≤ n) ∨
      (s.params.hasR = false ∧ 0x18 ≤ n ∧ n ≤ 0x1E) ∨ (s.params.hasQ = false ∧ n = 0x20)) →
    step s = .next { s with pending := rest }

/-- 10_state.md R22, R24, R27, 43_companions.md R166, R176: a host read returns the value of the register with that number,
zero-extended to 32 bits. STATUS reads ERR + 16 RV + 32 QV, with QV 0 when HAS_Q is false. CMD, an unmapped number and a
register of an absent unit read 0. The read has no effect on the block. That the value is recorded in `answers` is the
model's choice (log entry 3). -/
def Obligations.RegReadReturnsValue : Prop :=
  ∀ (s : State) (n : Nat) (rest : List Event),
    s.params.legal = true → s.pending = .regRead n :: rest →
    ∃ v : HostWord, step s = .next { s with pending := rest, answers := .reg v :: s.answers } ∧
      (n = 0x00 → v.toNat = s.cfg.toNat) ∧
      (n = 0x01 → v.toNat = 0) ∧
      (n = 0x02 → v.toNat = s.err + (if statusRV s.status = true then 16 else 0) +
        (if s.params.hasQ = true ∧ statusQV s.status = true then 32 else 0)) ∧
      (n = 0x08 → v.toNat = s.code.toNat) ∧
      (n = 0x09 → v.toNat = s.seq.toNat) ∧
      (n = 0x0A → v.toNat = s.mode.toNat) ∧
      (n = 0x0B → v.toNat = s.blen.toNat) ∧
      (n = 0x0C → v.toNat = s.cap.toNat) ∧
      (n = 0x0D → v.toNat = s.rlen.toNat) ∧
      (n = 0x0E → v.toNat = s.soff.toNat) ∧
      (n = 0x0F → v.toNat = s.slen.toNat) ∧
      (n = 0x10 → v.toNat = s.olen.toNat) ∧
      (n = 0x11 → v.toNat = s.rcode.toNat) ∧
      (n = 0x12 → v.toNat = s.rctrl.toNat) ∧
      (n = 0x13 → v.toNat = s.raddr.toNat) ∧
      (n = 0x14 → v.toNat = s.poff.toNat) ∧
      (n = 0x15 → v.toNat = s.plen.toNat) ∧
      (n = 0x16 → v.toNat = s.trl.toNat) ∧
      (s.params.hasR = true →
        (n = 0x18 → v.toNat = s.rkind.toNat) ∧
        (n = 0x19 → v.toNat = s.rerr.toNat) ∧
        (n = 0x1A → v.toNat = s.idVendor.toNat) ∧
        (n = 0x1B → v.toNat = s.idModel.toNat) ∧
        (n = 0x1C → v.toNat = s.idVersion.toNat) ∧
        (n = 0x1D → v.toNat = s.idSerial.toNat) ∧
        (n = 0x1E → v.toNat = s.idFw.toNat)) ∧
      (s.params.hasR = false → 0x18 ≤ n → n ≤ 0x1E → v.toNat = 0) ∧
      (s.params.hasQ = true → n = 0x20 → v.toNat = s.qcount.toNat) ∧
      (s.params.hasQ = false → n = 0x20 → v.toNat = 0) ∧
      ((0x03 ≤ n ∧ n ≤ 0x07) ∨ n = 0x17 ∨ n = 0x1F ∨ 0x21 ≤ n → v.toNat = 0)

/-- 20_memory.md R61, 10_state.md R28: a host write to a buffer moves one byte within the size and changes nothing at or
beyond it; its one side effect is that a write to RXBUF within the size clears STATUS.RV. -/
def Obligations.BufWriteMovesOneByte : Prop :=
  ∀ (s : State) (sp : Space) (i : Nat) (b : Byte) (rest : List Event),
    s.params.legal = true → s.pending = .bufWrite sp i b :: rest →
    (s.size sp ≤ i → step s = .next { s with pending := rest }) ∧
    (i < s.size sp →
      ∃ t, step s = .next t ∧ t.byteAt sp i = b ∧ s.SameOutside t sp i (i + 1) ∧
        (∀ sp', sp' ≠ sp → s.SameBytes t sp') ∧
        statusErr t.status = statusErr s.status ∧ statusQV t.status = statusQV s.status ∧
        statusRV t.status = (if sp = .rxbuf then false else statusRV s.status) ∧
        t = { s with pending := rest, status := t.status, cbuf := t.cbuf, txbuf := t.txbuf, rxbuf := t.rxbuf })

/-- 20_memory.md R61: a host read of a buffer returns the byte, or 0 at or beyond the size, and has no side effect. -/
def Obligations.BufReadReturnsByte : Prop :=
  ∀ (s : State) (sp : Space) (i : Nat) (rest : List Event),
    s.params.legal = true → s.pending = .bufRead sp i :: rest →
    step s = .next { s with
      pending := rest
      answers := .byte (if i < s.size sp then s.byteAt sp i else 0) :: s.answers }

/-! ### Reset -/

/-- 10_state.md R47: after reset, for every configuration, every register holds 0 and reads 0 and the queue is empty. The
clauses on the buffers are the model's form of "every byte is arbitrary" (log entry 2, DESIGN CHOICE): no byte has a stored
value, and each reads as a free value of Config. -/
def Obligations.ResetClearsEverything : Prop :=
  ∀ p : Params, (State.resetWith p).RegistersZero ∧ (∀ r, (State.resetWith p).readReg r = 0) ∧
    (State.resetWith p).queue = [] ∧
    ∀ sp i, Memory.lookup ((State.resetWith p).mem sp) i = none ∧
      (State.resetWith p).byteAt sp i = Config.resetByte (State.resetWith p).resets sp i

/-- 70_reset_and_hazards.md R215, R216: a reset from any state leaves the state of R47. That no buffer byte has a stored
value after it (log entry 2), that reset is an event of the host's list, and that the list and the recorded answers outlive
it (log entry 9), are the model's choices. -/
def Obligations.ResetEventResets : Prop :=
  ∀ (s : State) (rest : List Event), s.params.legal = true → s.pending = .reset :: rest →
    ∃ t, step s = .next t ∧ t.RegistersZero ∧ (∀ r, t.readReg r = 0) ∧ t.queue = [] ∧
      (∀ sp i, Memory.lookup (t.mem sp) i = none) ∧ t.params = s.params ∧ t.pending = rest ∧
      t.answers = s.answers

/-- 70_reset_and_hazards.md R217: what the first operations do in the reset state, for every legal configuration and
whatever the buffers hold. -/
def Obligations.FirstOperationsAfterReset : Prop :=
  ∀ (p : Params) (c x r : Memory) (s : State), p.legal = true →
    s = { State.resetWith p with cbuf := c, txbuf := x, rxbuf := r } →
    (∃ t, exec .build s = .next t ∧ t.err = 1) ∧
    (∃ t, exec .decode s = .next t ∧ t.err = 3) ∧
    (∃ t, exec .cksum8Chk s = .next t ∧ t.err = 4) ∧
    (∃ t, exec .crc16Chk s = .next t ∧ t.err = 4) ∧
    (∃ t, exec .cksum8Gen s = .next t ∧ t.err = 0 ∧ t.byteAt .txbuf 0 = 0x00#8 ∧ t.trl = 0) ∧
    (∃ t, exec .crc16Gen s = .next t ∧ t.err = 0 ∧ t.byteAt .txbuf 0 = 0x0F#8 ∧ t.byteAt .txbuf 1 = 0x1D#8 ∧
      t.trl = 0x1D0F#16) ∧
    (p.hasQ = true →
      (∃ t, exec .qpeek s = .next t ∧ t.err = 0 ∧ statusQV t.status = false) ∧
      (∃ t, exec .qdeq s = .next t ∧ t.err = 0 ∧ statusQV t.status = false)) ∧
    (p.hasR = true → ∃ t, exec .rply s = .next t ∧ t.err = 9)

/-! ### The trailer functions -/

/-- 40_trailer.md R122 (and R111): the checksum of a byte sequence is the one byte that brings its sum to 0 modulo 256. -/
def Obligations.ChecksumBringsSumToZero : Prop :=
  ∀ (s : List Byte) (t : Byte), t = cksum8 s ↔ ((s ++ [t]).map BitVec.toNat).sum % 256 = 0

/-- 40_trailer.md R113: the CRC folds its step from 0x1D0F, and stands on the wire low byte first; the accumulator runs
through the source's example frame as the rule prints it; 0x1D0F is the only initial value that gives 0x9060 there, and
0x0000 and 0xFFFF give what the rule prints. -/
def Obligations.CrcOfTheExampleFrame : Prop :=
  (∀ bs : List Byte, crc16 bs = bs.foldl crcStep 0x1D0F#16 ∧
    ∃ lo hi : Byte, tbytes 1 bs = [lo, hi] ∧ lo.toNat = (crc16 bs).toNat % 256 ∧ hi.toNat = (crc16 bs).toNat / 256) ∧
    crc16 [] = 0x1D0F#16 ∧
    crc16 [0x53#8] = 0xA60A#16 ∧ crc16 [0x53#8, 0x65#8] = 0xE32F#16 ∧
    crc16 [0x53#8, 0x65#8, 0x08#8] = 0x6345#16 ∧ crc16 [0x53#8, 0x65#8, 0x08#8, 0x00#8] = 0x19C5#16 ∧
    crc16 [0x53#8, 0x65#8, 0x08#8, 0x00#8, 0x04#8] = 0x069C#16 ∧
    crc16 [0x53#8, 0x65#8, 0x08#8, 0x00#8, 0x04#8, 0x60#8] = 0x9060#16 ∧
    (∀ c : BitVec 16,
      [0x53#8, 0x65#8, 0x08#8, 0x00#8, 0x04#8, 0x60#8].foldl crcStep c = 0x9060#16 ↔ c = 0x1D0F#16) ∧
    [0x53#8, 0x65#8, 0x08#8, 0x00#8, 0x04#8, 0x60#8].foldl crcStep 0x0000#16 = 0xA15E#16 ∧
    [0x53#8, 0x65#8, 0x08#8, 0x00#8, 0x04#8, 0x60#8].foldl crcStep 0xFFFF#16 = 0xAF4E#16

/-- 40_trailer.md R124: both functions process a sequence in one pass, and a CRC step is a table look-up. -/
def Obligations.IncrementalAndTableForms : Prop :=
  (∀ a b : List Byte, (a ++ b).foldl ckStep 0 = b.foldl ckStep (a.foldl ckStep 0)) ∧
    (∀ a b : List Byte, crc16 (a ++ b) = b.foldl crcStep (crc16 a)) ∧
    (∀ (c : BitVec 16) (b : Byte),
      (crcStep c b).toNat =
        (c.toNat * 256 % 65536) ^^^ (crcTable (BitVec.ofNat 8 (c.toNat / 256) ^^^ b)).toNat) ∧
    crcTable 0 = 0x0000#16 ∧ crcTable 1 = 0x1021#16 ∧ crcTable 255 = 0x1EF0#16

/-- 40_trailer.md R123: flipping any single bit of the span or of the trailer of a frame whose trailer check passes makes
the check fail, in both trailer modes. -/
def Obligations.SingleBitFlipFailsTrailerCheck : Prop :=
  ∀ (m : BitVec 1) (span t : List Byte) (i k : Nat), tok m span t = true → k < 8 →
    (i < span.length → tok m (flipBit span i k) t = false) ∧
    (i < t.length → tok m span (flipBit t i k) = false)

/-! ### The standalone trailer operations -/

/-- 40_trailer.md R117: CKSUM8.GEN, both outcomes and everything else unchanged. -/
def Obligations.Cksum8GenAppendsChecksum : Prop :=
  ∀ (s : State) (n : Nat), n = s.soff.toNat + s.slen.toNat →
    (n + 1 ≤ s.params.txCap →
      ∃ t, exec .cksum8Gen s = .next t ∧ t.err = 0 ∧
        t.byteAt .txbuf n = cksum8 (s.span .txbuf s.soff.toNat s.slen.toNat) ∧
        t.trl.toNat = (cksum8 (s.span .txbuf s.soff.toNat s.slen.toNat)).toNat ∧
        s.SameFlags t ∧ s.SameOutside t .txbuf n (n + 1) ∧
        t = { s with status := t.status, trl := t.trl, txbuf := t.txbuf }) ∧
    (s.params.txCap < n + 1 →
      ∃ t, exec .cksum8Gen s = .next t ∧ t.err = 1 ∧ t.trl = 0 ∧ s.SameFlags t ∧
        t = { s with status := t.status, trl := t.trl })

/-- 40_trailer.md R118: CKSUM8.CHK, all three outcomes and everything else unchanged. The premise RLEN ≤ RXCAP holds in
every state of a run (`State.Inv`). -/
def Obligations.Cksum8ChkComparesChecksum : Prop :=
  ∀ (s : State) (n : Nat), n = s.soff.toNat + s.slen.toNat → s.rlen.toNat ≤ s.params.rxCap →
    (n + 1 ≤ s.rlen.toNat →
      ∃ t, exec .cksum8Chk s = .next t ∧
        t.trl.toNat = (cksum8 (s.span .rxbuf s.soff.toNat s.slen.toNat)).toNat ∧
        (t.err = if s.byteAt .rxbuf n = cksum8 (s.span .rxbuf s.soff.toNat s.slen.toNat) then 0 else 5) ∧
        s.SameFlags t ∧ t = { s with status := t.status, trl := t.trl }) ∧
    (s.rlen.toNat < n + 1 →
      ∃ t, exec .cksum8Chk s = .next t ∧ t.err = 4 ∧ t.trl = 0 ∧ s.SameFlags t ∧
        t = { s with status := t.status, trl := t.trl })

/-- 40_trailer.md R119: CRC16.GEN, low byte first, both outcomes and everything else unchanged. -/
def Obligations.Crc16GenAppendsCrc : Prop :=
  ∀ (s : State) (n : Nat), n = s.soff.toNat + s.slen.toNat →
    (n + 2 ≤ s.params.txCap →
      ∃ t, exec .crc16Gen s = .next t ∧ t.err = 0 ∧
        t.trl = crc16 (s.span .txbuf s.soff.toNat s.slen.toNat) ∧
        (t.byteAt .txbuf n).toNat = t.trl.toNat % 256 ∧ (t.byteAt .txbuf (n + 1)).toNat = t.trl.toNat / 256 ∧
        s.SameFlags t ∧ s.SameOutside t .txbuf n (n + 2) ∧
        t = { s with status := t.status, trl := t.trl, txbuf := t.txbuf }) ∧
    (s.params.txCap < n + 2 →
      ∃ t, exec .crc16Gen s = .next t ∧ t.err = 1 ∧ t.trl = 0 ∧ s.SameFlags t ∧
        t = { s with status := t.status, trl := t.trl })

/-- 40_trailer.md R120: CRC16.CHK, a little-endian read, all three outcomes and everything else unchanged. The premise
RLEN ≤ RXCAP holds in every state of a run. -/
def Obligations.Crc16ChkComparesCrc : Prop :=
  ∀ (s : State) (n : Nat), n = s.soff.toNat + s.slen.toNat → s.rlen.toNat ≤ s.params.rxCap →
    (n + 2 ≤ s.rlen.toNat →
      ∃ t, exec .crc16Chk s = .next t ∧
        t.trl = crc16 (s.span .rxbuf s.soff.toNat s.slen.toNat) ∧
        (t.err = if (s.byteAt .rxbuf n).toNat + 256 * (s.byteAt .rxbuf (n + 1)).toNat
            = (crc16 (s.span .rxbuf s.soff.toNat s.slen.toNat)).toNat then 0 else 5) ∧
        s.SameFlags t ∧ t = { s with status := t.status, trl := t.trl }) ∧
    (s.rlen.toNat < n + 2 →
      ∃ t, exec .crc16Chk s = .next t ∧ t.err = 4 ∧ t.trl = 0 ∧ s.SameFlags t ∧
        t = { s with status := t.status, trl := t.trl })

/-- 40_trailer.md R116, 60_exceptions.md R196: the frame of the four trailer operations. They write TRL and ERR and
nothing else among the registers; the CHK operations write no buffer; the GEN operations write the trailer's bytes behind
the span, and nothing when they do not fit. -/
def Obligations.TrailerOperationsFrame : Prop :=
  ∀ (s t : State) (i : Instr), exec i s = .next t →
    ((i = .cksum8Chk ∨ i = .crc16Chk) →
      s.SameFlags t ∧ t = { s with status := t.status, trl := t.trl }) ∧
    ((i = .cksum8Gen ∨ i = .crc16Gen) →
      s.SameFlags t ∧ t = { s with status := t.status, trl := t.trl, txbuf := t.txbuf }) ∧
    (i = .cksum8Gen →
      if s.soff.toNat + s.slen.toNat + 1 ≤ s.params.txCap
      then s.SameOutside t .txbuf (s.soff.toNat + s.slen.toNat) (s.soff.toNat + s.slen.toNat + 1)
      else s.SameBytes t .txbuf) ∧
    (i = .crc16Gen →
      if s.soff.toNat + s.slen.toNat + 2 ≤ s.params.txCap
      then s.SameOutside t .txbuf (s.soff.toNat + s.slen.toNat) (s.soff.toNat + s.slen.toNat + 2)
      else s.SameBytes t .txbuf)

/-! ### BUILD -/

/-- 41_build.md R131 (success), 30_encoding.md R80 to R86, R90: BUILD writes the frame byte for byte. T is 1 for MODE 0
and 2 for MODE 1. The premise CAP ≤ TXCAP holds in every state of a run. -/
def Obligations.BuildWritesFrame : Prop :=
  ∀ (s : State) (T : Nat), T = (if s.mode = 1 then 2 else 1) → s.cap.toNat ≤ s.params.txCap →
    s.blen.toNat ≤ s.params.maxBody → 7 + s.blen.toNat + T ≤ s.cap.toNat →
    ∃ t, exec .build s = .next t ∧ t.err = 0 ∧ t.olen.toNat = 7 + s.blen.toNat + T ∧
      t.byteAt .txbuf 0 = 0xFF#8 ∧ t.byteAt .txbuf 1 = 0x53#8 ∧
      (t.byteAt .txbuf 2).toNat = s.cfg.toNat % 128 + 128 * (s.cfg.toNat / 128 % 2) ∧
      (t.byteAt .txbuf 3).toNat + 256 * (t.byteAt .txbuf 4).toNat = 6 + s.blen.toNat + T ∧
      (t.byteAt .txbuf 5).toNat = s.seq.toNat + 4 * s.mode.toNat ∧
      t.byteAt .txbuf 6 = s.code ∧
      (∀ i, i < s.blen.toNat → t.byteAt .txbuf (7 + i) = s.byteAt .cbuf i) ∧
      (s.mode = 0 →
        t.byteAt .txbuf (7 + s.blen.toNat) = cksum8 (t.span .txbuf 1 (6 + s.blen.toNat))) ∧
      (s.mode = 1 →
        (t.byteAt .txbuf (7 + s.blen.toNat)).toNat + 256 * (t.byteAt .txbuf (8 + s.blen.toNat)).toNat
          = (crc16 (t.span .txbuf 1 (6 + s.blen.toNat))).toNat)

/-- 41_build.md R131 (failure), R132: the error a failing BUILD reports, whichever alone holds, and as BUILD_ERR_ORDER
says when both hold (`either` admits both); OLEN is 0. The premise CAP ≤ TXCAP holds in every state of a run. -/
def Obligations.BuildFailureReportsError : Prop :=
  ∀ (s : State) (need : Nat), need = 7 + s.blen.toNat + (if s.mode = 1 then 2 else 1) →
    s.cap.toNat ≤ s.params.txCap → (s.params.maxBody < s.blen.toNat ∨ s.cap.toNat < need) →
    ∃ t, exec .build s = .next t ∧ t.olen = 0 ∧
      (s.params.maxBody < s.blen.toNat → need ≤ s.cap.toNat → t.err = 2) ∧
      (s.blen.toNat ≤ s.params.maxBody → s.cap.toNat < need → t.err = 1) ∧
      (s.params.maxBody < s.blen.toNat → s.cap.toNat < need →
        (s.params.buildErrOrder = .capacityFirst → t.err = 1) ∧
        (s.params.buildErrOrder = .payloadFirst → t.err = 2) ∧
        (s.params.buildErrOrder = .either → t.err = 1 ∨ t.err = 2))

/-- 41_build.md R133, R134: BUILD has no effect outside TXBUF, OLEN and ERR (and the model's own counter of free values,
log entry 4); after a success every TXBUF byte at OLEN and above is unchanged, after a failure every one at CAP and
above. -/
def Obligations.BuildFrame : Prop :=
  ∀ s t : State, exec .build s = .next t →
    s.SameFlags t ∧
    t = { s with status := t.status, olen := t.olen, txbuf := t.txbuf, draws := t.draws } ∧
    (t.err = 0 → t.draws = s.draws ∧ s.SameOutside t .txbuf 0 t.olen.toNat) ∧
    (t.err ≠ 0 → s.SameOutside t .txbuf 0 s.cap.toNat)

/-- 41_build.md R136: after every successful BUILD the length field is OLEN - 1. -/
def Obligations.BuildLengthInvariant : Prop :=
  ∀ s t : State, exec .build s = .next t → t.err = 0 →
    (t.byteAt .txbuf 3).toNat + 256 * (t.byteAt .txbuf 4).toNat = t.olen.toNat - 1

/-- 41_build.md R135: BUILD is a function of CFG (ADDR and DIR), CODE, SEQ, MODE, BLEN and CBUF[0..BLEN): two successful
BUILDs of the same operands give the same OLEN and the same bytes, whatever their capacities; with the same CAP and
configuration they report the same error, but where both errors hold and BUILD_ERR_ORDER leaves the choice open. -/
def Obligations.BuildIsAFunction : Prop :=
  ∀ s s' t t' : State, exec .build s = .next t → exec .build s' = .next t' →
    cfgAddr s.cfg = cfgAddr s'.cfg → cfgDir s.cfg = cfgDir s'.cfg → s.code = s'.code → s.seq = s'.seq →
    s.mode = s'.mode → s.blen = s'.blen → (∀ i, i < s.blen.toNat → s.byteAt .cbuf i = s'.byteAt .cbuf i) →
    (t.err = 0 → t'.err = 0 →
      t.olen = t'.olen ∧ ∀ i, i < t.olen.toNat → t.byteAt .txbuf i = t'.byteAt .txbuf i) ∧
    (s.params = s'.params → s.cap = s'.cap →
      t.olen = t'.olen ∧
        (t.err = t'.err ∨
          (s.params.buildErrOrder = .either ∧ s.params.maxBody < s.blen.toNat ∧
            s.cap.toNat < 7 + s.blen.toNat + (if s.mode = 1 then 2 else 1))))

/-- 41_build.md R137, the headline: DECODE recovers what BUILD framed. `u` is any state whose RXBUF[0..RLEN) is the built
frame and whose address check is off or expects the built address; the premise RLEN ≤ RXCAP holds in every state of a
run. Every code, body, sequence number, mode, address and direction is covered. -/
def Obligations.DecodeRecoversBuiltCommand : Prop :=
  ∀ s t u : State, exec .build s = .next t → t.err = 0 →
    u.rlen = t.olen → u.rlen.toNat ≤ u.params.rxCap →
    (∀ i, i < t.olen.toNat → u.byteAt .rxbuf i = t.byteAt .txbuf i) →
    (cfgAchk u.cfg = false ∨ cfgAddr u.cfg = cfgAddr s.cfg) →
    ∃ w, exec .decode u = .next w ∧ w.err = 0 ∧ statusRV w.status = true ∧
      w.rcode = s.code ∧ w.poff = 7 ∧ w.plen = s.blen ∧
      (∀ i, i < s.blen.toNat → w.byteAt .rxbuf (7 + i) = s.byteAt .cbuf i) ∧
      w.rctrl.toNat = s.seq.toNat + 4 * s.mode.toNat ∧
      w.raddr.toNat = (cfgAddr s.cfg).toNat + 128 * (if cfgDir s.cfg then 1 else 0)

/-- 42_decode.md R155: one flipped bit anywhere in a built frame makes DECODE fail, with the error the rule names, but for
bit 2 of the control byte; and that exception is real. In `u`, RXBUF[0..RLEN) is the built frame with bit `k` of byte `j`
flipped; the premise RLEN ≤ RXCAP holds in every state of a run. -/
def Obligations.DecodeRejectsOneFlippedBit : Prop :=
  (∀ (s t u : State) (j k : Nat), exec .build s = .next t → t.err = 0 →
    u.rlen = t.olen → u.rlen.toNat ≤ u.params.rxCap → j < t.olen.toNat → k < 8 →
    (∀ i, i < t.olen.toNat →
      u.byteAt .rxbuf i = if i = j then flipByte (t.byteAt .txbuf i) k else t.byteAt .txbuf i) →
    ¬ (j = 5 ∧ k = 2) → ¬ (j = 0 ∧ u.params.checkMark = false) →
    ∃ w, exec .decode u = .next w ∧ statusRV w.status = false ∧
      w.err = if j < 2 then 3 else if j = 3 ∨ j = 4 then 4 else 5) ∧
  ∃ s t u w : State, exec .build s = .next t ∧ t.err = 0 ∧ u.rlen = t.olen ∧
    (∀ i, i < t.olen.toNat →
      u.byteAt .rxbuf i = if i = 5 then flipByte (t.byteAt .txbuf i) 2 else t.byteAt .txbuf i) ∧
    exec .decode u = .next w ∧ w.err = 0 ∧ w.rcode = 0x26#8 ∧ w.plen = 1 ∧ w.byteAt .rxbuf 7 = 0x62#8

/-! ### DECODE -/

/-- 42_decode.md R146 to R150: DECODE makes its four checks in order and reports the first that fails; on success ERR is
0. T is 2 when bit 2 of the received control byte is 1, else 1; `n` is RLEN. The premise RLEN ≤ RXCAP holds in every
state of a run. -/
def Obligations.DecodeReportsFirstFailedCheck : Prop :=
  ∀ (s : State) (n T : Nat), n = s.rlen.toNat →
    T = (if (s.byteAt .rxbuf 5).getLsbD 2 then 2 else 1) → n ≤ s.params.rxCap →
    ∃ t, exec .decode s = .next t ∧
      t.err =
        if n < 2 ∨ (s.params.checkMark = true ∧ s.byteAt .rxbuf 0 ≠ 0xFF#8) ∨ s.byteAt .rxbuf 1 ≠ 0x53#8 then 3
        else if n < 6 ∨ (s.byteAt .rxbuf 3).toNat + 256 * (s.byteAt .rxbuf 4).toNat ≠ n - 1 ∨ n < 7 + T then 4
        else if (T = 1 ∧ s.byteAt .rxbuf (n - 1) ≠ cksum8 (s.span .rxbuf 1 (n - 2))) ∨
            (T = 2 ∧ (s.byteAt .rxbuf (n - 2)).toNat + 256 * (s.byteAt .rxbuf (n - 1)).toNat
              ≠ (crc16 (s.span .rxbuf 1 (n - 3))).toNat) then 5
        else if cfgAchk s.cfg = true ∧ (s.byteAt .rxbuf 2).toNat % 128 ≠ (cfgAddr s.cfg).toNat then 6
        else 0

/-- 42_decode.md R152, R151: what DECODE leaves. On success RCODE, RCTRL, RADDR report the frame's bytes, the view is
RXBUF[7..n-T) and RV is 1; on failure the whole group and RV are 0. RXBUF is unchanged, and so is everything outside the
DECODE group, RV and ERR. -/
def Obligations.DecodeResultsAndFrame : Prop :=
  ∀ s t : State, exec .decode s = .next t →
    (t.err = 0 →
      t.rcode = s.byteAt .rxbuf 6 ∧ t.rctrl = s.byteAt .rxbuf 5 ∧ t.raddr = s.byteAt .rxbuf 2 ∧ t.poff = 7 ∧
        t.plen.toNat = s.rlen.toNat - 7 - (if (s.byteAt .rxbuf 5).getLsbD 2 then 2 else 1) ∧
        statusRV t.status = true) ∧
    (t.err ≠ 0 →
      t.rcode = 0 ∧ t.rctrl = 0 ∧ t.raddr = 0 ∧ t.poff = 0 ∧ t.plen = 0 ∧ statusRV t.status = false) ∧
    statusQV t.status = statusQV s.status ∧
    t = { s with status := t.status, rcode := t.rcode, rctrl := t.rctrl, raddr := t.raddr, poff := t.poff,
                 plen := t.plen }

/-- 42_decode.md R154: DECODE is a function of CHECK_MARK, CFG.ADDR, CFG.ACHK, RLEN and RXBUF[0..RLEN), and running it
twice gives the same result twice. -/
def Obligations.DecodeIsAFunction : Prop :=
  (∀ s s' t t' : State, exec .decode s = .next t → exec .decode s' = .next t' →
    s.params.checkMark = s'.params.checkMark → cfgAddr s.cfg = cfgAddr s'.cfg →
    cfgAchk s.cfg = cfgAchk s'.cfg → s.rlen = s'.rlen →
    (∀ i, i < s.rlen.toNat → s.byteAt .rxbuf i = s'.byteAt .rxbuf i) →
    t.err = t'.err ∧ statusRV t.status = statusRV t'.status ∧ t.rcode = t'.rcode ∧ t.rctrl = t'.rctrl ∧
      t.raddr = t'.raddr ∧ t.poff = t'.poff ∧ t.plen = t'.plen) ∧
  ∀ s t : State, exec .decode s = .next t → exec .decode t = .next t

/-! ### The command queue -/

/-- 43_companions.md R167: QENQ, both errors in their order and the append; QCOUNT follows where 16 bits hold the
queue's length (beyond, the spec states no value: log entry 8). -/
def Obligations.QenqAppendsCommand : Prop :=
  ∀ s : State, s.params.hasQ = true →
    (s.params.maxBody < s.blen.toNat →
      ∃ t, exec .qenq s = .next t ∧ t.err = 2 ∧ s.SameFlags t ∧ t = { s with status := t.status }) ∧
    (s.blen.toNat ≤ s.params.maxBody → s.queue.length = s.params.qCap →
      ∃ t, exec .qenq s = .next t ∧ t.err = 7 ∧ s.SameFlags t ∧ t = { s with status := t.status }) ∧
    (s.blen.toNat ≤ s.params.maxBody → s.queue.length ≠ s.params.qCap →
      ∃ t e, exec .qenq s = .next t ∧ t.err = 0 ∧ t.queue = s.queue ++ [e] ∧ e.code = s.code ∧
        e.body.length = s.blen.toNat ∧ (∀ i, i < s.blen.toNat → e.body[i]? = some (s.byteAt .cbuf i)) ∧
        (s.queue.length < 65535 → t.qcount.toNat = s.queue.length + 1) ∧ s.SameFlags t ∧
        t = { s with status := t.status, queue := t.queue, qcount := t.qcount })

/-- 43_companions.md R168: QPEEK. An empty queue is QV 0 and no error (R169); else the head entry is delivered and the
queue stays. The premises on the head entry hold in every state of a run. -/
def Obligations.QpeekDeliversHead : Prop :=
  ∀ s : State, s.params.hasQ = true →
    (s.queue = [] →
      ∃ t, exec .qpeek s = .next t ∧ t.err = 0 ∧ statusQV t.status = false ∧
        statusRV t.status = statusRV s.status ∧ t = { s with status := t.status }) ∧
    (∀ e rest, s.queue = e :: rest → e.body.length ≤ s.params.maxBody → s.params.maxBody ≤ 65527 →
      ∃ t, exec .qpeek s = .next t ∧ t.err = 0 ∧ statusQV t.status = true ∧ t.code = e.code ∧
        t.blen.toNat = e.body.length ∧ (∀ i, i < e.body.length → e.body[i]? = some (t.byteAt .cbuf i)) ∧
        s.SameOutside t .cbuf 0 e.body.length ∧ statusRV t.status = statusRV s.status ∧
        t = { s with status := t.status, code := t.code, blen := t.blen, cbuf := t.cbuf })

/-- 43_companions.md R170: QDEQ delivers as QPEEK does, and removes the head; QCOUNT follows where 16 bits hold the
queue's length. The premises on the head entry hold in every state of a run. -/
def Obligations.QdeqRemovesHead : Prop :=
  ∀ s : State, s.params.hasQ = true →
    (s.queue = [] →
      ∃ t, exec .qdeq s = .next t ∧ t.err = 0 ∧ statusQV t.status = false ∧
        statusRV t.status = statusRV s.status ∧ t = { s with status := t.status }) ∧
    (∀ e rest, s.queue = e :: rest → e.body.length ≤ s.params.maxBody → s.params.maxBody ≤ 65527 →
      ∃ t, exec .qdeq s = .next t ∧ t.err = 0 ∧ statusQV t.status = true ∧ t.code = e.code ∧
        t.blen.toNat = e.body.length ∧ (∀ i, i < e.body.length → e.body[i]? = some (t.byteAt .cbuf i)) ∧
        s.SameOutside t .cbuf 0 e.body.length ∧ t.queue = rest ∧
        (rest.length < 65536 → t.qcount.toNat = rest.length) ∧ statusRV t.status = statusRV s.status ∧
        t = { s with status := t.status, code := t.code, blen := t.blen, cbuf := t.cbuf, queue := t.queue,
                     qcount := t.qcount })

/-- 43_companions.md R171: QRST empties the queue and clears QV; nothing else changes. -/
def Obligations.QrstEmptiesQueue : Prop :=
  ∀ s : State, s.params.hasQ = true →
    ∃ t, exec .qrst s = .next t ∧ t.err = 0 ∧ statusQV t.status = false ∧
      statusRV t.status = statusRV s.status ∧ t.queue = [] ∧ t.qcount = 0 ∧
      t = { s with status := t.status, queue := [], qcount := 0 }

/-- 30_encoding.md R96 (format Q), 43_companions.md R167 to R171: the frame of the queue operations. -/
def Obligations.QueueOperationsFrame : Prop :=
  ∀ (s t : State) (i : Instr), exec i s = .next t →
    (i = .qenq → s.SameFlags t ∧ t = { s with status := t.status, queue := t.queue, qcount := t.qcount }) ∧
    (i = .qpeek →
      statusRV t.status = statusRV s.status ∧
        t = { s with status := t.status, code := t.code, blen := t.blen, cbuf := t.cbuf }) ∧
    (i = .qdeq →
      statusRV t.status = statusRV s.status ∧
        t = { s with status := t.status, code := t.code, blen := t.blen, cbuf := t.cbuf, queue := t.queue,
                     qcount := t.qcount }) ∧
    (i = .qrst →
      statusRV t.status = statusRV s.status ∧
        t = { s with status := t.status, queue := t.queue, qcount := t.qcount }) ∧
    ((i = .qpeek ∨ i = .qdeq) → s.params.hasQ = true → ∀ e rest, s.queue = e :: rest →
      s.SameOutside t .cbuf 0 e.body.length) ∧
    ((i = .qpeek ∨ i = .qdeq) → (s.params.hasQ = false ∨ s.queue = []) →
      t = { s with status := t.status })

/-- 43_companions.md R172 (b): peeking again delivers identical bytes and leaves the queue and its size unchanged. -/
def Obligations.PeekIsIdempotent : Prop :=
  ∀ s t u : State, exec .qpeek s = .next t → exec .qpeek t = .next u →
    u.code = t.code ∧ u.blen = t.blen ∧ u.status = t.status ∧ t.SameBytes u .cbuf ∧
      u.queue = s.queue ∧ u.qcount = s.qcount

/-- 43_companions.md R172 (a): consuming a queue of any length delivers its commands in the order they were enqueued.
The premises on the entries hold in every state of a run. -/
def Obligations.QueueDrainsInOrder : Prop :=
  ∀ s : State, s.params.hasQ = true → s.params.maxBody ≤ 65527 →
    (∀ e ∈ s.queue, e.body.length ≤ s.params.maxBody) →
    State.drain s.queue.length s = s.queue

/-! ### The reply interpreter -/

/-- 43_companions.md R178, R177, R180: RPLY on a validated reply, by its code. `p k` is byte `k` of the payload view. The
premise on the view holds in every state of a run. -/
def Obligations.RplyInterpretsReply : Prop :=
  ∀ (s : State) (p : Nat → Nat), (∀ k, p k = (s.byteAt .rxbuf (s.poff.toNat + k)).toNat) →
    s.params.hasR = true → s.params.legal = true → statusRV s.status = true →
    s.poff.toNat + s.plen.toNat ≤ s.params.rxCap →
    (s.rcode = s.params.codePdid → 12 ≤ s.plen.toNat →
      ∃ t, exec .rply s = .next t ∧ t.err = 0 ∧ t.rkind = 3 ∧ t.rerr = 0 ∧
        t.idVendor.toNat = p 0 + 256 * p 1 + 65536 * p 2 ∧ t.idModel.toNat = p 3 ∧ t.idVersion.toNat = p 4 ∧
        t.idSerial.toNat = p 5 + 256 * p 6 + 65536 * p 7 + 16777216 * p 8 ∧
        t.idFw.toNat = 65536 * p 9 + 256 * p 10 + p 11) ∧
    (s.rcode = s.params.codePdid → s.plen.toNat < 12 →
      ∃ t, exec .rply s = .next t ∧ t.err = 8 ∧ t.rkind = 0 ∧ t.rerr = 0) ∧
    (s.rcode = s.params.codeNak → 1 ≤ s.plen.toNat →
      ∃ t, exec .rply s = .next t ∧ t.err = 0 ∧ t.rkind = 2 ∧ t.rerr.toNat = p 0) ∧
    (s.rcode = s.params.codeNak → s.plen.toNat = 0 →
      ∃ t, exec .rply s = .next t ∧ t.err = 8 ∧ t.rkind = 0 ∧ t.rerr = 0) ∧
    (s.rcode = s.params.codeAck → ∃ t, exec .rply s = .next t ∧ t.err = 0 ∧ t.rkind = 1 ∧ t.rerr = 0) ∧
    (s.rcode ≠ s.params.codePdid → s.rcode ≠ s.params.codeNak → s.rcode ≠ s.params.codeAck →
      ∃ t, exec .rply s = .next t ∧ t.err = 0 ∧ t.rkind = 0 ∧ t.rerr = 0)

/-- 43_companions.md R178, 60_exceptions.md R197: without a validated reply RPLY raises IllegalOp and clears RKIND and
RERR, and nothing else. -/
def Obligations.RplyNeedsValidatedReply : Prop :=
  ∀ s : State, s.params.hasR = true → statusRV s.status = false →
    ∃ t, exec .rply s = .next t ∧ t.err = 9 ∧ t.rkind = 0 ∧ t.rerr = 0 ∧ s.SameFlags t ∧
      t = { s with status := t.status, rkind := 0, rerr := 0 }

/-- 43_companions.md R178, R179: the frame of RPLY. It changes RKIND, RERR, ERR and, only for a successful
identification, the five ID registers. -/
def Obligations.RplyFrame : Prop :=
  ∀ s t : State, exec .rply s = .next t →
    s.SameFlags t ∧
    t = { s with status := t.status, rkind := t.rkind, rerr := t.rerr, idVendor := t.idVendor,
                 idModel := t.idModel, idVersion := t.idVersion, idSerial := t.idSerial, idFw := t.idFw } ∧
    ((t.err ≠ 0 ∨ t.rkind ≠ 3) →
      t.idVendor = s.idVendor ∧ t.idModel = s.idModel ∧ t.idVersion = s.idVersion ∧ t.idSerial = s.idSerial ∧
        t.idFw = s.idFw)

/-! ### Rules of the whole machine -/

/-- 10_state.md R22 (column "written by operations"), R29, 20_memory.md R60: no operation writes CFG, SEQ, MODE, CAP,
RLEN, SOFF, SLEN or RXBUF, and only QPEEK and QDEQ write CODE, BLEN and CBUF. -/
def Obligations.OperationsLeaveOperandsAlone : Prop :=
  ∀ (i : Instr) (s t : State), exec i s = .next t →
    t.params = s.params ∧ t.cfg = s.cfg ∧ t.seq = s.seq ∧ t.mode = s.mode ∧ t.cap = s.cap ∧ t.rlen = s.rlen ∧
      t.soff = s.soff ∧ t.slen = s.slen ∧ t.rxbuf = s.rxbuf ∧ s.SameBytes t .rxbuf ∧ t.pending = s.pending ∧
      t.answers = s.answers ∧
      (i ≠ .qpeek → i ≠ .qdeq → t.code = s.code ∧ t.blen = s.blen ∧ s.SameBytes t .cbuf)

/-- 10_state.md R37: an operation never touches the result registers of another group, and (R27) only DECODE changes RV
and only the queue reads and QRST change QV. -/
def Obligations.ResultGroupsAreSeparate : Prop :=
  ∀ (i : Instr) (s t : State), exec i s = .next t →
    (i ≠ .build → t.olen = s.olen) ∧
    (i ≠ .decode →
      t.rcode = s.rcode ∧ t.rctrl = s.rctrl ∧ t.raddr = s.raddr ∧ t.poff = s.poff ∧ t.plen = s.plen ∧
        statusRV t.status = statusRV s.status) ∧
    (i ≠ .cksum8Gen → i ≠ .cksum8Chk → i ≠ .crc16Gen → i ≠ .crc16Chk → t.trl = s.trl) ∧
    (i ≠ .rply →
      t.rkind = s.rkind ∧ t.rerr = s.rerr ∧ t.idVendor = s.idVendor ∧ t.idModel = s.idModel ∧
        t.idVersion = s.idVersion ∧ t.idSerial = s.idSerial ∧ t.idFw = s.idFw) ∧
    (i ≠ .qpeek → i ≠ .qdeq → i ≠ .qrst → statusQV t.status = statusQV s.status)

/-- 43_companions.md R172 (e): no operation but QENQ, QDEQ and QRST changes the queue or QCOUNT. -/
def Obligations.OnlyQueueWritersChangeQueue : Prop :=
  ∀ (i : Instr) (s t : State), exec i s = .next t → i ≠ .qenq → i ≠ .qdeq → i ≠ .qrst →
    t.queue = s.queue ∧ t.qcount = s.qcount

/-- 10_state.md R27, 60_exceptions.md R195: ERR is not sticky and does not stop the block. What an operation does, and the
ERR it leaves, do not depend on the ERR it finds. -/
def Obligations.EarlierErrorHasNoInfluence : Prop :=
  ∀ (i : Instr) (s : State) (e : BitVec 4),
    exec i { s with status := packStatus e (statusRV s.status) (statusQV s.status) } = exec i s

/-! ### Invariants -/

/-- Every step keeps the invariant of a run: the buffers' canonical form and bounds, CAP ≤ TXCAP and RLEN ≤ RXCAP
(10_state.md R34, R35), the view within RLEN (R42), the queue's invariants (43_companions.md R172 (d)) and the range of
ERR (60_exceptions.md R191). -/
def Obligations.StepKeepsInvariant : Prop :=
  ∀ s t : State, s.Inv → step s = .next t → t.Inv

/-- The invariant holds after reset, for every legal configuration. -/
def Obligations.InvariantHoldsAtReset : Prop :=
  (∀ p : Params, p.legal = true → (State.resetWith p).Inv) ∧ State.reset.Inv

/-- 10_state.md R27, R28, 42_decode.md R151: every step keeps STATUS.RV truthful: while RV is 1 the DECODE group describes
a frame in RXBUF[0..RLEN) that passes checks 1 to 3, so that corrupted data cannot reach the reply interpreter. -/
def Obligations.StepKeepsViewSound : Prop :=
  ∀ s t : State, s.ViewSound → step s = .next t → t.ViewSound

/-- STATUS.RV is truthful after reset: it is 0. -/
def Obligations.ViewSoundAtReset : Prop :=
  ∀ p : Params, (State.resetWith p).ViewSound ∧ statusRV (State.resetWith p).status = false

/-- 00_scope.md R13, 20_memory.md R62: in a state of a run no step stops; every transaction and every operation has a next
state, so no operation touches an index beyond a buffer's size. -/
def Obligations.NoStopInASoundState : Prop :=
  ∀ s : State, s.Inv → (∃ t, step s = .next t) ∧ ∀ i : Instr, ∃ t, exec i s = .next t

/-- The model's own fault (log entry 6), in states that no run reaches: an operation whose operands would take it past
the end of its space stops under that name. -/
def Obligations.OutOfSpaceOperandsFault : Prop :=
  ∀ (s : State) (T : Nat), T = (if s.mode = 1 then 2 else 1) →
    (s.params.txCap < s.cap.toNat → (s.params.maxBody < s.blen.toNat ∨ s.cap.toNat < 7 + s.blen.toNat + T) →
      exec .build s = .fault (.outsideBuffer .txbuf s.cap.toNat)) ∧
    (s.blen.toNat ≤ s.params.maxBody → 7 + s.blen.toNat + T ≤ s.cap.toNat →
      s.params.txCap < 7 + s.blen.toNat + T →
      exec .build s = .fault (.outsideBuffer .txbuf (7 + s.blen.toNat + T))) ∧
    (s.soff.toNat + s.slen.toNat + 1 ≤ s.rlen.toNat → s.params.rxCap < s.soff.toNat + s.slen.toNat + 1 →
      exec .cksum8Chk s = .fault (.outsideBuffer .rxbuf (s.soff.toNat + s.slen.toNat + 1))) ∧
    (s.soff.toNat + s.slen.toNat + 2 ≤ s.rlen.toNat → s.params.rxCap < s.soff.toNat + s.slen.toNat + 2 →
      exec .crc16Chk s = .fault (.outsideBuffer .rxbuf (s.soff.toNat + s.slen.toNat + 2))) ∧
    (s.params.rxCap < s.rlen.toNat → exec .decode s = .fault (.outsideBuffer .rxbuf s.rlen.toNat)) ∧
    (s.params.hasQ = true → ∀ e rest, s.queue = e :: rest → s.params.maxBody < e.body.length →
      exec .qpeek s = .fault (.outsideBuffer .cbuf e.body.length) ∧
      exec .qdeq s = .fault (.outsideBuffer .cbuf e.body.length)) ∧
    (s.params.hasR = true → statusRV s.status = true → s.params.rxCap < s.poff.toNat + s.plen.toNat →
      exec .rply s = .fault (.outsideBuffer .rxbuf (s.poff.toNat + s.plen.toNat)))

/-! ### The script line that depends on the state -/

/-- 30_encoding.md R99: the script line LOOP copies TXBUF[0..OLEN) to RXBUF, byte by byte, and writes OLEN to RLEN (clamped,
10_state.md R35), with the OLEN and the bytes that stand when the host reaches the line. 20_memory.md R61 governs an index
beyond a buffer's size: it reads 0, and a write to it changes nothing. One more step reaches the line: the model's choice
(log entry 3). -/
def Obligations.LoopLineCopiesFrame : Prop :=
  ∀ (s : State) (rest : List Event) (n : Nat) (sent : Nat → Byte), n = s.olen.toNat →
    (∀ i, sent i = if i < s.params.txCap then s.byteAt .txbuf i else 0) →
    s.params.legal = true → s.pending = .line .loop :: rest →
    ∃ t, Host.Core.run Sys2Proof.core (2 * n + 2) s = Host.Outcome.next t ∧
      (∀ i, i < n → i < s.params.rxCap → t.byteAt .rxbuf i = sent i) ∧
      s.SameOutside t .rxbuf 0 (min n s.params.rxCap) ∧ t.rlen.toNat = min n s.params.rxCap ∧
      statusRV t.status = false ∧ statusErr t.status = statusErr s.status ∧
      statusQV t.status = statusQV s.status ∧
      t = { s with pending := rest, rxbuf := t.rxbuf, rlen := t.rlen, status := t.status,
                   answers := ((List.range n).map (fun i => Answer.byte (sent i))).reverse ++ s.answers }
end

