-- ==== Sys2Proof/Laws/Flags.lean ====
section
/-! SUPPORT. The fields of packed words: reading a field of what `packStatus`, `addressByte` and `controlByte` build. -/

namespace Sys2Proof.Machine

@[simp] theorem statusErr_pack (e : BitVec 4) (rv qv : Bool) : statusErr (packStatus e rv qv) = e := by
  revert e rv qv; decide +kernel

@[simp] theorem statusRV_pack (e : BitVec 4) (rv qv : Bool) : statusRV (packStatus e rv qv) = rv := by
  revert e rv qv; decide +kernel

@[simp] theorem statusQV_pack (e : BitVec 4) (rv qv : Bool) : statusQV (packStatus e rv qv) = qv := by
  revert e rv qv; decide +kernel

/-- STATUS is nothing but its three fields. -/
theorem pack_fields (st : BitVec 6) : packStatus (statusErr st) (statusRV st) (statusQV st) = st := by
  revert st; decide +kernel

theorem status_ext {st st' : BitVec 6} (he : statusErr st = statusErr st') (hr : statusRV st = statusRV st')
    (hq : statusQV st = statusQV st') : st = st' := by
  rw [← pack_fields st, ← pack_fields st', he, hr, hq]

@[simp] theorem statusErr_zero : statusErr 0 = 0 := by decide

@[simp] theorem statusRV_zero : statusRV 0 = false := by decide

@[simp] theorem statusQV_zero : statusQV 0 = false := by decide

theorem Err.code_le (e : Err) : e.code.toNat ≤ 9 := by cases e <;> decide

@[simp] theorem byteAddr_addressByte (c : BitVec 9) : byteAddr (addressByte c) = cfgAddr c := by
  revert c; decide +kernel

@[simp] theorem ctrlMode_controlByte (q : BitVec 2) (m : BitVec 1) : ctrlMode (controlByte q m) = m := by
  revert q m; decide +kernel

end Sys2Proof.Machine
end

