-- ==== Sys2Proof/Laws/State.lean ====
section
/-! SUPPORT. One lemma per field of State per named update that leaves it alone, and one per field it writes, so that no
proof unfolds a record update. -/

namespace Sys2Proof.Machine

/-! ### `State.setErr` -/

@[simp] theorem State.setErr_params (s : State) (e : Err) : (s.setErr e).params = s.params := rfl
@[simp] theorem State.setErr_cfg (s : State) (e : Err) : (s.setErr e).cfg = s.cfg := rfl
@[simp] theorem State.setErr_code (s : State) (e : Err) : (s.setErr e).code = s.code := rfl
@[simp] theorem State.setErr_seq (s : State) (e : Err) : (s.setErr e).seq = s.seq := rfl
@[simp] theorem State.setErr_mode (s : State) (e : Err) : (s.setErr e).mode = s.mode := rfl
@[simp] theorem State.setErr_blen (s : State) (e : Err) : (s.setErr e).blen = s.blen := rfl
@[simp] theorem State.setErr_cap (s : State) (e : Err) : (s.setErr e).cap = s.cap := rfl
@[simp] theorem State.setErr_rlen (s : State) (e : Err) : (s.setErr e).rlen = s.rlen := rfl
@[simp] theorem State.setErr_soff (s : State) (e : Err) : (s.setErr e).soff = s.soff := rfl
@[simp] theorem State.setErr_slen (s : State) (e : Err) : (s.setErr e).slen = s.slen := rfl
@[simp] theorem State.setErr_olen (s : State) (e : Err) : (s.setErr e).olen = s.olen := rfl
@[simp] theorem State.setErr_rcode (s : State) (e : Err) : (s.setErr e).rcode = s.rcode := rfl
@[simp] theorem State.setErr_rctrl (s : State) (e : Err) : (s.setErr e).rctrl = s.rctrl := rfl
@[simp] theorem State.setErr_raddr (s : State) (e : Err) : (s.setErr e).raddr = s.raddr := rfl
@[simp] theorem State.setErr_poff (s : State) (e : Err) : (s.setErr e).poff = s.poff := rfl
@[simp] theorem State.setErr_plen (s : State) (e : Err) : (s.setErr e).plen = s.plen := rfl
@[simp] theorem State.setErr_trl (s : State) (e : Err) : (s.setErr e).trl = s.trl := rfl
@[simp] theorem State.setErr_rkind (s : State) (e : Err) : (s.setErr e).rkind = s.rkind := rfl
@[simp] theorem State.setErr_rerr (s : State) (e : Err) : (s.setErr e).rerr = s.rerr := rfl
@[simp] theorem State.setErr_idVendor (s : State) (e : Err) : (s.setErr e).idVendor = s.idVendor := rfl
@[simp] theorem State.setErr_idModel (s : State) (e : Err) : (s.setErr e).idModel = s.idModel := rfl
@[simp] theorem State.setErr_idVersion (s : State) (e : Err) : (s.setErr e).idVersion = s.idVersion := rfl
@[simp] theorem State.setErr_idSerial (s : State) (e : Err) : (s.setErr e).idSerial = s.idSerial := rfl
@[simp] theorem State.setErr_idFw (s : State) (e : Err) : (s.setErr e).idFw = s.idFw := rfl
@[simp] theorem State.setErr_qcount (s : State) (e : Err) : (s.setErr e).qcount = s.qcount := rfl
@[simp] theorem State.setErr_queue (s : State) (e : Err) : (s.setErr e).queue = s.queue := rfl
@[simp] theorem State.setErr_cbuf (s : State) (e : Err) : (s.setErr e).cbuf = s.cbuf := rfl
@[simp] theorem State.setErr_txbuf (s : State) (e : Err) : (s.setErr e).txbuf = s.txbuf := rfl
@[simp] theorem State.setErr_rxbuf (s : State) (e : Err) : (s.setErr e).rxbuf = s.rxbuf := rfl
@[simp] theorem State.setErr_pending (s : State) (e : Err) : (s.setErr e).pending = s.pending := rfl
@[simp] theorem State.setErr_answers (s : State) (e : Err) : (s.setErr e).answers = s.answers := rfl
@[simp] theorem State.setErr_draws (s : State) (e : Err) : (s.setErr e).draws = s.draws := rfl
@[simp] theorem State.setErr_resets (s : State) (e : Err) : (s.setErr e).resets = s.resets := rfl

/-! ### `State.setRV` -/

@[simp] theorem State.setRV_params (s : State) (b : Bool) : (s.setRV b).params = s.params := rfl
@[simp] theorem State.setRV_cfg (s : State) (b : Bool) : (s.setRV b).cfg = s.cfg := rfl
@[simp] theorem State.setRV_code (s : State) (b : Bool) : (s.setRV b).code = s.code := rfl
@[simp] theorem State.setRV_seq (s : State) (b : Bool) : (s.setRV b).seq = s.seq := rfl
@[simp] theorem State.setRV_mode (s : State) (b : Bool) : (s.setRV b).mode = s.mode := rfl
@[simp] theorem State.setRV_blen (s : State) (b : Bool) : (s.setRV b).blen = s.blen := rfl
@[simp] theorem State.setRV_cap (s : State) (b : Bool) : (s.setRV b).cap = s.cap := rfl
@[simp] theorem State.setRV_rlen (s : State) (b : Bool) : (s.setRV b).rlen = s.rlen := rfl
@[simp] theorem State.setRV_soff (s : State) (b : Bool) : (s.setRV b).soff = s.soff := rfl
@[simp] theorem State.setRV_slen (s : State) (b : Bool) : (s.setRV b).slen = s.slen := rfl
@[simp] theorem State.setRV_olen (s : State) (b : Bool) : (s.setRV b).olen = s.olen := rfl
@[simp] theorem State.setRV_rcode (s : State) (b : Bool) : (s.setRV b).rcode = s.rcode := rfl
@[simp] theorem State.setRV_rctrl (s : State) (b : Bool) : (s.setRV b).rctrl = s.rctrl := rfl
@[simp] theorem State.setRV_raddr (s : State) (b : Bool) : (s.setRV b).raddr = s.raddr := rfl
@[simp] theorem State.setRV_poff (s : State) (b : Bool) : (s.setRV b).poff = s.poff := rfl
@[simp] theorem State.setRV_plen (s : State) (b : Bool) : (s.setRV b).plen = s.plen := rfl
@[simp] theorem State.setRV_trl (s : State) (b : Bool) : (s.setRV b).trl = s.trl := rfl
@[simp] theorem State.setRV_rkind (s : State) (b : Bool) : (s.setRV b).rkind = s.rkind := rfl
@[simp] theorem State.setRV_rerr (s : State) (b : Bool) : (s.setRV b).rerr = s.rerr := rfl
@[simp] theorem State.setRV_idVendor (s : State) (b : Bool) : (s.setRV b).idVendor = s.idVendor := rfl
@[simp] theorem State.setRV_idModel (s : State) (b : Bool) : (s.setRV b).idModel = s.idModel := rfl
@[simp] theorem State.setRV_idVersion (s : State) (b : Bool) : (s.setRV b).idVersion = s.idVersion := rfl
@[simp] theorem State.setRV_idSerial (s : State) (b : Bool) : (s.setRV b).idSerial = s.idSerial := rfl
@[simp] theorem State.setRV_idFw (s : State) (b : Bool) : (s.setRV b).idFw = s.idFw := rfl
@[simp] theorem State.setRV_qcount (s : State) (b : Bool) : (s.setRV b).qcount = s.qcount := rfl
@[simp] theorem State.setRV_queue (s : State) (b : Bool) : (s.setRV b).queue = s.queue := rfl
@[simp] theorem State.setRV_cbuf (s : State) (b : Bool) : (s.setRV b).cbuf = s.cbuf := rfl
@[simp] theorem State.setRV_txbuf (s : State) (b : Bool) : (s.setRV b).txbuf = s.txbuf := rfl
@[simp] theorem State.setRV_rxbuf (s : State) (b : Bool) : (s.setRV b).rxbuf = s.rxbuf := rfl
@[simp] theorem State.setRV_pending (s : State) (b : Bool) : (s.setRV b).pending = s.pending := rfl
@[simp] theorem State.setRV_answers (s : State) (b : Bool) : (s.setRV b).answers = s.answers := rfl
@[simp] theorem State.setRV_draws (s : State) (b : Bool) : (s.setRV b).draws = s.draws := rfl
@[simp] theorem State.setRV_resets (s : State) (b : Bool) : (s.setRV b).resets = s.resets := rfl

/-! ### `State.setQV` -/

@[simp] theorem State.setQV_params (s : State) (b : Bool) : (s.setQV b).params = s.params := rfl
@[simp] theorem State.setQV_cfg (s : State) (b : Bool) : (s.setQV b).cfg = s.cfg := rfl
@[simp] theorem State.setQV_code (s : State) (b : Bool) : (s.setQV b).code = s.code := rfl
@[simp] theorem State.setQV_seq (s : State) (b : Bool) : (s.setQV b).seq = s.seq := rfl
@[simp] theorem State.setQV_mode (s : State) (b : Bool) : (s.setQV b).mode = s.mode := rfl
@[simp] theorem State.setQV_blen (s : State) (b : Bool) : (s.setQV b).blen = s.blen := rfl
@[simp] theorem State.setQV_cap (s : State) (b : Bool) : (s.setQV b).cap = s.cap := rfl
@[simp] theorem State.setQV_rlen (s : State) (b : Bool) : (s.setQV b).rlen = s.rlen := rfl
@[simp] theorem State.setQV_soff (s : State) (b : Bool) : (s.setQV b).soff = s.soff := rfl
@[simp] theorem State.setQV_slen (s : State) (b : Bool) : (s.setQV b).slen = s.slen := rfl
@[simp] theorem State.setQV_olen (s : State) (b : Bool) : (s.setQV b).olen = s.olen := rfl
@[simp] theorem State.setQV_rcode (s : State) (b : Bool) : (s.setQV b).rcode = s.rcode := rfl
@[simp] theorem State.setQV_rctrl (s : State) (b : Bool) : (s.setQV b).rctrl = s.rctrl := rfl
@[simp] theorem State.setQV_raddr (s : State) (b : Bool) : (s.setQV b).raddr = s.raddr := rfl
@[simp] theorem State.setQV_poff (s : State) (b : Bool) : (s.setQV b).poff = s.poff := rfl
@[simp] theorem State.setQV_plen (s : State) (b : Bool) : (s.setQV b).plen = s.plen := rfl
@[simp] theorem State.setQV_trl (s : State) (b : Bool) : (s.setQV b).trl = s.trl := rfl
@[simp] theorem State.setQV_rkind (s : State) (b : Bool) : (s.setQV b).rkind = s.rkind := rfl
@[simp] theorem State.setQV_rerr (s : State) (b : Bool) : (s.setQV b).rerr = s.rerr := rfl
@[simp] theorem State.setQV_idVendor (s : State) (b : Bool) : (s.setQV b).idVendor = s.idVendor := rfl
@[simp] theorem State.setQV_idModel (s : State) (b : Bool) : (s.setQV b).idModel = s.idModel := rfl
@[simp] theorem State.setQV_idVersion (s : State) (b : Bool) : (s.setQV b).idVersion = s.idVersion := rfl
@[simp] theorem State.setQV_idSerial (s : State) (b : Bool) : (s.setQV b).idSerial = s.idSerial := rfl
@[simp] theorem State.setQV_idFw (s : State) (b : Bool) : (s.setQV b).idFw = s.idFw := rfl
@[simp] theorem State.setQV_qcount (s : State) (b : Bool) : (s.setQV b).qcount = s.qcount := rfl
@[simp] theorem State.setQV_queue (s : State) (b : Bool) : (s.setQV b).queue = s.queue := rfl
@[simp] theorem State.setQV_cbuf (s : State) (b : Bool) : (s.setQV b).cbuf = s.cbuf := rfl
@[simp] theorem State.setQV_txbuf (s : State) (b : Bool) : (s.setQV b).txbuf = s.txbuf := rfl
@[simp] theorem State.setQV_rxbuf (s : State) (b : Bool) : (s.setQV b).rxbuf = s.rxbuf := rfl
@[simp] theorem State.setQV_pending (s : State) (b : Bool) : (s.setQV b).pending = s.pending := rfl
@[simp] theorem State.setQV_answers (s : State) (b : Bool) : (s.setQV b).answers = s.answers := rfl
@[simp] theorem State.setQV_draws (s : State) (b : Bool) : (s.setQV b).draws = s.draws := rfl
@[simp] theorem State.setQV_resets (s : State) (b : Bool) : (s.setQV b).resets = s.resets := rfl

/-! ### `State.setMem` -/

@[simp] theorem State.setMem_params (s : State) (sp : Space) (m : Memory) : (s.setMem sp m).params = s.params := by cases sp <;> rfl
@[simp] theorem State.setMem_cfg (s : State) (sp : Space) (m : Memory) : (s.setMem sp m).cfg = s.cfg := by cases sp <;> rfl
@[simp] theorem State.setMem_status (s : State) (sp : Space) (m : Memory) : (s.setMem sp m).status = s.status := by cases sp <;> rfl
@[simp] theorem State.setMem_code (s : State) (sp : Space) (m : Memory) : (s.setMem sp m).code = s.code := by cases sp <;> rfl
@[simp] theorem State.setMem_seq (s : State) (sp : Space) (m : Memory) : (s.setMem sp m).seq = s.seq := by cases sp <;> rfl
@[simp] theorem State.setMem_mode (s : State) (sp : Space) (m : Memory) : (s.setMem sp m).mode = s.mode := by cases sp <;> rfl
@[simp] theorem State.setMem_blen (s : State) (sp : Space) (m : Memory) : (s.setMem sp m).blen = s.blen := by cases sp <;> rfl
@[simp] theorem State.setMem_cap (s : State) (sp : Space) (m : Memory) : (s.setMem sp m).cap = s.cap := by cases sp <;> rfl
@[simp] theorem State.setMem_rlen (s : State) (sp : Space) (m : Memory) : (s.setMem sp m).rlen = s.rlen := by cases sp <;> rfl
@[simp] theorem State.setMem_soff (s : State) (sp : Space) (m : Memory) : (s.setMem sp m).soff = s.soff := by cases sp <;> rfl
@[simp] theorem State.setMem_slen (s : State) (sp : Space) (m : Memory) : (s.setMem sp m).slen = s.slen := by cases sp <;> rfl
@[simp] theorem State.setMem_olen (s : State) (sp : Space) (m : Memory) : (s.setMem sp m).olen = s.olen := by cases sp <;> rfl
@[simp] theorem State.setMem_rcode (s : State) (sp : Space) (m : Memory) : (s.setMem sp m).rcode = s.rcode := by cases sp <;> rfl
@[simp] theorem State.setMem_rctrl (s : State) (sp : Space) (m : Memory) : (s.setMem sp m).rctrl = s.rctrl := by cases sp <;> rfl
@[simp] theorem State.setMem_raddr (s : State) (sp : Space) (m : Memory) : (s.setMem sp m).raddr = s.raddr := by cases sp <;> rfl
@[simp] theorem State.setMem_poff (s : State) (sp : Space) (m : Memory) : (s.setMem sp m).poff = s.poff := by cases sp <;> rfl
@[simp] theorem State.setMem_plen (s : State) (sp : Space) (m : Memory) : (s.setMem sp m).plen = s.plen := by cases sp <;> rfl
@[simp] theorem State.setMem_trl (s : State) (sp : Space) (m : Memory) : (s.setMem sp m).trl = s.trl := by cases sp <;> rfl
@[simp] theorem State.setMem_rkind (s : State) (sp : Space) (m : Memory) : (s.setMem sp m).rkind = s.rkind := by cases sp <;> rfl
@[simp] theorem State.setMem_rerr (s : State) (sp : Space) (m : Memory) : (s.setMem sp m).rerr = s.rerr := by cases sp <;> rfl
@[simp] theorem State.setMem_idVendor (s : State) (sp : Space) (m : Memory) : (s.setMem sp m).idVendor = s.idVendor := by cases sp <;> rfl
@[simp] theorem State.setMem_idModel (s : State) (sp : Space) (m : Memory) : (s.setMem sp m).idModel = s.idModel := by cases sp <;> rfl
@[simp] theorem State.setMem_idVersion (s : State) (sp : Space) (m : Memory) : (s.setMem sp m).idVersion = s.idVersion := by cases sp <;> rfl
@[simp] theorem State.setMem_idSerial (s : State) (sp : Space) (m : Memory) : (s.setMem sp m).idSerial = s.idSerial := by cases sp <;> rfl
@[simp] theorem State.setMem_idFw (s : State) (sp : Space) (m : Memory) : (s.setMem sp m).idFw = s.idFw := by cases sp <;> rfl
@[simp] theorem State.setMem_qcount (s : State) (sp : Space) (m : Memory) : (s.setMem sp m).qcount = s.qcount := by cases sp <;> rfl
@[simp] theorem State.setMem_queue (s : State) (sp : Space) (m : Memory) : (s.setMem sp m).queue = s.queue := by cases sp <;> rfl
@[simp] theorem State.setMem_pending (s : State) (sp : Space) (m : Memory) : (s.setMem sp m).pending = s.pending := by cases sp <;> rfl
@[simp] theorem State.setMem_answers (s : State) (sp : Space) (m : Memory) : (s.setMem sp m).answers = s.answers := by cases sp <;> rfl
@[simp] theorem State.setMem_draws (s : State) (sp : Space) (m : Memory) : (s.setMem sp m).draws = s.draws := by cases sp <;> rfl
@[simp] theorem State.setMem_resets (s : State) (sp : Space) (m : Memory) : (s.setMem sp m).resets = s.resets := by cases sp <;> rfl

/-! ### `State.storeBytes` -/

@[simp] theorem State.storeBytes_params (s : State) (sp : Space) (i : Nat) (bs : List Byte) : (s.storeBytes sp i bs).params = s.params := by cases sp <;> rfl
@[simp] theorem State.storeBytes_cfg (s : State) (sp : Space) (i : Nat) (bs : List Byte) : (s.storeBytes sp i bs).cfg = s.cfg := by cases sp <;> rfl
@[simp] theorem State.storeBytes_status (s : State) (sp : Space) (i : Nat) (bs : List Byte) : (s.storeBytes sp i bs).status = s.status := by cases sp <;> rfl
@[simp] theorem State.storeBytes_code (s : State) (sp : Space) (i : Nat) (bs : List Byte) : (s.storeBytes sp i bs).code = s.code := by cases sp <;> rfl
@[simp] theorem State.storeBytes_seq (s : State) (sp : Space) (i : Nat) (bs : List Byte) : (s.storeBytes sp i bs).seq = s.seq := by cases sp <;> rfl
@[simp] theorem State.storeBytes_mode (s : State) (sp : Space) (i : Nat) (bs : List Byte) : (s.storeBytes sp i bs).mode = s.mode := by cases sp <;> rfl
@[simp] theorem State.storeBytes_blen (s : State) (sp : Space) (i : Nat) (bs : List Byte) : (s.storeBytes sp i bs).blen = s.blen := by cases sp <;> rfl
@[simp] theorem State.storeBytes_cap (s : State) (sp : Space) (i : Nat) (bs : List Byte) : (s.storeBytes sp i bs).cap = s.cap := by cases sp <;> rfl
@[simp] theorem State.storeBytes_rlen (s : State) (sp : Space) (i : Nat) (bs : List Byte) : (s.storeBytes sp i bs).rlen = s.rlen := by cases sp <;> rfl
@[simp] theorem State.storeBytes_soff (s : State) (sp : Space) (i : Nat) (bs : List Byte) : (s.storeBytes sp i bs).soff = s.soff := by cases sp <;> rfl
@[simp] theorem State.storeBytes_slen (s : State) (sp : Space) (i : Nat) (bs : List Byte) : (s.storeBytes sp i bs).slen = s.slen := by cases sp <;> rfl
@[simp] theorem State.storeBytes_olen (s : State) (sp : Space) (i : Nat) (bs : List Byte) : (s.storeBytes sp i bs).olen = s.olen := by cases sp <;> rfl
@[simp] theorem State.storeBytes_rcode (s : State) (sp : Space) (i : Nat) (bs : List Byte) : (s.storeBytes sp i bs).rcode = s.rcode := by cases sp <;> rfl
@[simp] theorem State.storeBytes_rctrl (s : State) (sp : Space) (i : Nat) (bs : List Byte) : (s.storeBytes sp i bs).rctrl = s.rctrl := by cases sp <;> rfl
@[simp] theorem State.storeBytes_raddr (s : State) (sp : Space) (i : Nat) (bs : List Byte) : (s.storeBytes sp i bs).raddr = s.raddr := by cases sp <;> rfl
@[simp] theorem State.storeBytes_poff (s : State) (sp : Space) (i : Nat) (bs : List Byte) : (s.storeBytes sp i bs).poff = s.poff := by cases sp <;> rfl
@[simp] theorem State.storeBytes_plen (s : State) (sp : Space) (i : Nat) (bs : List Byte) : (s.storeBytes sp i bs).plen = s.plen := by cases sp <;> rfl
@[simp] theorem State.storeBytes_trl (s : State) (sp : Space) (i : Nat) (bs : List Byte) : (s.storeBytes sp i bs).trl = s.trl := by cases sp <;> rfl
@[simp] theorem State.storeBytes_rkind (s : State) (sp : Space) (i : Nat) (bs : List Byte) : (s.storeBytes sp i bs).rkind = s.rkind := by cases sp <;> rfl
@[simp] theorem State.storeBytes_rerr (s : State) (sp : Space) (i : Nat) (bs : List Byte) : (s.storeBytes sp i bs).rerr = s.rerr := by cases sp <;> rfl
@[simp] theorem State.storeBytes_idVendor (s : State) (sp : Space) (i : Nat) (bs : List Byte) : (s.storeBytes sp i bs).idVendor = s.idVendor := by cases sp <;> rfl
@[simp] theorem State.storeBytes_idModel (s : State) (sp : Space) (i : Nat) (bs : List Byte) : (s.storeBytes sp i bs).idModel = s.idModel := by cases sp <;> rfl
@[simp] theorem State.storeBytes_idVersion (s : State) (sp : Space) (i : Nat) (bs : List Byte) : (s.storeBytes sp i bs).idVersion = s.idVersion := by cases sp <;> rfl
@[simp] theorem State.storeBytes_idSerial (s : State) (sp : Space) (i : Nat) (bs : List Byte) : (s.storeBytes sp i bs).idSerial = s.idSerial := by cases sp <;> rfl
@[simp] theorem State.storeBytes_idFw (s : State) (sp : Space) (i : Nat) (bs : List Byte) : (s.storeBytes sp i bs).idFw = s.idFw := by cases sp <;> rfl
@[simp] theorem State.storeBytes_qcount (s : State) (sp : Space) (i : Nat) (bs : List Byte) : (s.storeBytes sp i bs).qcount = s.qcount := by cases sp <;> rfl
@[simp] theorem State.storeBytes_queue (s : State) (sp : Space) (i : Nat) (bs : List Byte) : (s.storeBytes sp i bs).queue = s.queue := by cases sp <;> rfl
@[simp] theorem State.storeBytes_pending (s : State) (sp : Space) (i : Nat) (bs : List Byte) : (s.storeBytes sp i bs).pending = s.pending := by cases sp <;> rfl
@[simp] theorem State.storeBytes_answers (s : State) (sp : Space) (i : Nat) (bs : List Byte) : (s.storeBytes sp i bs).answers = s.answers := by cases sp <;> rfl
@[simp] theorem State.storeBytes_draws (s : State) (sp : Space) (i : Nat) (bs : List Byte) : (s.storeBytes sp i bs).draws = s.draws := by cases sp <;> rfl
@[simp] theorem State.storeBytes_resets (s : State) (sp : Space) (i : Nat) (bs : List Byte) : (s.storeBytes sp i bs).resets = s.resets := by cases sp <;> rfl

/-! ### `State.setQueue` -/

@[simp] theorem State.setQueue_params (s : State) (q : List QEntry) : (s.setQueue q).params = s.params := rfl
@[simp] theorem State.setQueue_cfg (s : State) (q : List QEntry) : (s.setQueue q).cfg = s.cfg := rfl
@[simp] theorem State.setQueue_status (s : State) (q : List QEntry) : (s.setQueue q).status = s.status := rfl
@[simp] theorem State.setQueue_code (s : State) (q : List QEntry) : (s.setQueue q).code = s.code := rfl
@[simp] theorem State.setQueue_seq (s : State) (q : List QEntry) : (s.setQueue q).seq = s.seq := rfl
@[simp] theorem State.setQueue_mode (s : State) (q : List QEntry) : (s.setQueue q).mode = s.mode := rfl
@[simp] theorem State.setQueue_blen (s : State) (q : List QEntry) : (s.setQueue q).blen = s.blen := rfl
@[simp] theorem State.setQueue_cap (s : State) (q : List QEntry) : (s.setQueue q).cap = s.cap := rfl
@[simp] theorem State.setQueue_rlen (s : State) (q : List QEntry) : (s.setQueue q).rlen = s.rlen := rfl
@[simp] theorem State.setQueue_soff (s : State) (q : List QEntry) : (s.setQueue q).soff = s.soff := rfl
@[simp] theorem State.setQueue_slen (s : State) (q : List QEntry) : (s.setQueue q).slen = s.slen := rfl
@[simp] theorem State.setQueue_olen (s : State) (q : List QEntry) : (s.setQueue q).olen = s.olen := rfl
@[simp] theorem State.setQueue_rcode (s : State) (q : List QEntry) : (s.setQueue q).rcode = s.rcode := rfl
@[simp] theorem State.setQueue_rctrl (s : State) (q : List QEntry) : (s.setQueue q).rctrl = s.rctrl := rfl
@[simp] theorem State.setQueue_raddr (s : State) (q : List QEntry) : (s.setQueue q).raddr = s.raddr := rfl
@[simp] theorem State.setQueue_poff (s : State) (q : List QEntry) : (s.setQueue q).poff = s.poff := rfl
@[simp] theorem State.setQueue_plen (s : State) (q : List QEntry) : (s.setQueue q).plen = s.plen := rfl
@[simp] theorem State.setQueue_trl (s : State) (q : List QEntry) : (s.setQueue q).trl = s.trl := rfl
@[simp] theorem State.setQueue_rkind (s : State) (q : List QEntry) : (s.setQueue q).rkind = s.rkind := rfl
@[simp] theorem State.setQueue_rerr (s : State) (q : List QEntry) : (s.setQueue q).rerr = s.rerr := rfl
@[simp] theorem State.setQueue_idVendor (s : State) (q : List QEntry) : (s.setQueue q).idVendor = s.idVendor := rfl
@[simp] theorem State.setQueue_idModel (s : State) (q : List QEntry) : (s.setQueue q).idModel = s.idModel := rfl
@[simp] theorem State.setQueue_idVersion (s : State) (q : List QEntry) : (s.setQueue q).idVersion = s.idVersion := rfl
@[simp] theorem State.setQueue_idSerial (s : State) (q : List QEntry) : (s.setQueue q).idSerial = s.idSerial := rfl
@[simp] theorem State.setQueue_idFw (s : State) (q : List QEntry) : (s.setQueue q).idFw = s.idFw := rfl
@[simp] theorem State.setQueue_cbuf (s : State) (q : List QEntry) : (s.setQueue q).cbuf = s.cbuf := rfl
@[simp] theorem State.setQueue_txbuf (s : State) (q : List QEntry) : (s.setQueue q).txbuf = s.txbuf := rfl
@[simp] theorem State.setQueue_rxbuf (s : State) (q : List QEntry) : (s.setQueue q).rxbuf = s.rxbuf := rfl
@[simp] theorem State.setQueue_pending (s : State) (q : List QEntry) : (s.setQueue q).pending = s.pending := rfl
@[simp] theorem State.setQueue_answers (s : State) (q : List QEntry) : (s.setQueue q).answers = s.answers := rfl
@[simp] theorem State.setQueue_draws (s : State) (q : List QEntry) : (s.setQueue q).draws = s.draws := rfl
@[simp] theorem State.setQueue_resets (s : State) (q : List QEntry) : (s.setQueue q).resets = s.resets := rfl

/-! ### `State.deliver` -/

@[simp] theorem State.deliver_params (s : State) (e : QEntry) : (s.deliver e).params = s.params := rfl
@[simp] theorem State.deliver_cfg (s : State) (e : QEntry) : (s.deliver e).cfg = s.cfg := rfl
@[simp] theorem State.deliver_status (s : State) (e : QEntry) : (s.deliver e).status = s.status := rfl
@[simp] theorem State.deliver_seq (s : State) (e : QEntry) : (s.deliver e).seq = s.seq := rfl
@[simp] theorem State.deliver_mode (s : State) (e : QEntry) : (s.deliver e).mode = s.mode := rfl
@[simp] theorem State.deliver_cap (s : State) (e : QEntry) : (s.deliver e).cap = s.cap := rfl
@[simp] theorem State.deliver_rlen (s : State) (e : QEntry) : (s.deliver e).rlen = s.rlen := rfl
@[simp] theorem State.deliver_soff (s : State) (e : QEntry) : (s.deliver e).soff = s.soff := rfl
@[simp] theorem State.deliver_slen (s : State) (e : QEntry) : (s.deliver e).slen = s.slen := rfl
@[simp] theorem State.deliver_olen (s : State) (e : QEntry) : (s.deliver e).olen = s.olen := rfl
@[simp] theorem State.deliver_rcode (s : State) (e : QEntry) : (s.deliver e).rcode = s.rcode := rfl
@[simp] theorem State.deliver_rctrl (s : State) (e : QEntry) : (s.deliver e).rctrl = s.rctrl := rfl
@[simp] theorem State.deliver_raddr (s : State) (e : QEntry) : (s.deliver e).raddr = s.raddr := rfl
@[simp] theorem State.deliver_poff (s : State) (e : QEntry) : (s.deliver e).poff = s.poff := rfl
@[simp] theorem State.deliver_plen (s : State) (e : QEntry) : (s.deliver e).plen = s.plen := rfl
@[simp] theorem State.deliver_trl (s : State) (e : QEntry) : (s.deliver e).trl = s.trl := rfl
@[simp] theorem State.deliver_rkind (s : State) (e : QEntry) : (s.deliver e).rkind = s.rkind := rfl
@[simp] theorem State.deliver_rerr (s : State) (e : QEntry) : (s.deliver e).rerr = s.rerr := rfl
@[simp] theorem State.deliver_idVendor (s : State) (e : QEntry) : (s.deliver e).idVendor = s.idVendor := rfl
@[simp] theorem State.deliver_idModel (s : State) (e : QEntry) : (s.deliver e).idModel = s.idModel := rfl
@[simp] theorem State.deliver_idVersion (s : State) (e : QEntry) : (s.deliver e).idVersion = s.idVersion := rfl
@[simp] theorem State.deliver_idSerial (s : State) (e : QEntry) : (s.deliver e).idSerial = s.idSerial := rfl
@[simp] theorem State.deliver_idFw (s : State) (e : QEntry) : (s.deliver e).idFw = s.idFw := rfl
@[simp] theorem State.deliver_qcount (s : State) (e : QEntry) : (s.deliver e).qcount = s.qcount := rfl
@[simp] theorem State.deliver_queue (s : State) (e : QEntry) : (s.deliver e).queue = s.queue := rfl
@[simp] theorem State.deliver_txbuf (s : State) (e : QEntry) : (s.deliver e).txbuf = s.txbuf := rfl
@[simp] theorem State.deliver_rxbuf (s : State) (e : QEntry) : (s.deliver e).rxbuf = s.rxbuf := rfl
@[simp] theorem State.deliver_pending (s : State) (e : QEntry) : (s.deliver e).pending = s.pending := rfl
@[simp] theorem State.deliver_answers (s : State) (e : QEntry) : (s.deliver e).answers = s.answers := rfl
@[simp] theorem State.deliver_draws (s : State) (e : QEntry) : (s.deliver e).draws = s.draws := rfl
@[simp] theorem State.deliver_resets (s : State) (e : QEntry) : (s.deliver e).resets = s.resets := rfl

/-! ### `State.setReply` -/

@[simp] theorem State.setReply_params (s : State) (k : BitVec 2) (e : BitVec 8) : (s.setReply k e).params = s.params := rfl
@[simp] theorem State.setReply_cfg (s : State) (k : BitVec 2) (e : BitVec 8) : (s.setReply k e).cfg = s.cfg := rfl
@[simp] theorem State.setReply_status (s : State) (k : BitVec 2) (e : BitVec 8) : (s.setReply k e).status = s.status := rfl
@[simp] theorem State.setReply_code (s : State) (k : BitVec 2) (e : BitVec 8) : (s.setReply k e).code = s.code := rfl
@[simp] theorem State.setReply_seq (s : State) (k : BitVec 2) (e : BitVec 8) : (s.setReply k e).seq = s.seq := rfl
@[simp] theorem State.setReply_mode (s : State) (k : BitVec 2) (e : BitVec 8) : (s.setReply k e).mode = s.mode := rfl
@[simp] theorem State.setReply_blen (s : State) (k : BitVec 2) (e : BitVec 8) : (s.setReply k e).blen = s.blen := rfl
@[simp] theorem State.setReply_cap (s : State) (k : BitVec 2) (e : BitVec 8) : (s.setReply k e).cap = s.cap := rfl
@[simp] theorem State.setReply_rlen (s : State) (k : BitVec 2) (e : BitVec 8) : (s.setReply k e).rlen = s.rlen := rfl
@[simp] theorem State.setReply_soff (s : State) (k : BitVec 2) (e : BitVec 8) : (s.setReply k e).soff = s.soff := rfl
@[simp] theorem State.setReply_slen (s : State) (k : BitVec 2) (e : BitVec 8) : (s.setReply k e).slen = s.slen := rfl
@[simp] theorem State.setReply_olen (s : State) (k : BitVec 2) (e : BitVec 8) : (s.setReply k e).olen = s.olen := rfl
@[simp] theorem State.setReply_rcode (s : State) (k : BitVec 2) (e : BitVec 8) : (s.setReply k e).rcode = s.rcode := rfl
@[simp] theorem State.setReply_rctrl (s : State) (k : BitVec 2) (e : BitVec 8) : (s.setReply k e).rctrl = s.rctrl := rfl
@[simp] theorem State.setReply_raddr (s : State) (k : BitVec 2) (e : BitVec 8) : (s.setReply k e).raddr = s.raddr := rfl
@[simp] theorem State.setReply_poff (s : State) (k : BitVec 2) (e : BitVec 8) : (s.setReply k e).poff = s.poff := rfl
@[simp] theorem State.setReply_plen (s : State) (k : BitVec 2) (e : BitVec 8) : (s.setReply k e).plen = s.plen := rfl
@[simp] theorem State.setReply_trl (s : State) (k : BitVec 2) (e : BitVec 8) : (s.setReply k e).trl = s.trl := rfl
@[simp] theorem State.setReply_idVendor (s : State) (k : BitVec 2) (e : BitVec 8) : (s.setReply k e).idVendor = s.idVendor := rfl
@[simp] theorem State.setReply_idModel (s : State) (k : BitVec 2) (e : BitVec 8) : (s.setReply k e).idModel = s.idModel := rfl
@[simp] theorem State.setReply_idVersion (s : State) (k : BitVec 2) (e : BitVec 8) : (s.setReply k e).idVersion = s.idVersion := rfl
@[simp] theorem State.setReply_idSerial (s : State) (k : BitVec 2) (e : BitVec 8) : (s.setReply k e).idSerial = s.idSerial := rfl
@[simp] theorem State.setReply_idFw (s : State) (k : BitVec 2) (e : BitVec 8) : (s.setReply k e).idFw = s.idFw := rfl
@[simp] theorem State.setReply_qcount (s : State) (k : BitVec 2) (e : BitVec 8) : (s.setReply k e).qcount = s.qcount := rfl
@[simp] theorem State.setReply_queue (s : State) (k : BitVec 2) (e : BitVec 8) : (s.setReply k e).queue = s.queue := rfl
@[simp] theorem State.setReply_cbuf (s : State) (k : BitVec 2) (e : BitVec 8) : (s.setReply k e).cbuf = s.cbuf := rfl
@[simp] theorem State.setReply_txbuf (s : State) (k : BitVec 2) (e : BitVec 8) : (s.setReply k e).txbuf = s.txbuf := rfl
@[simp] theorem State.setReply_rxbuf (s : State) (k : BitVec 2) (e : BitVec 8) : (s.setReply k e).rxbuf = s.rxbuf := rfl
@[simp] theorem State.setReply_pending (s : State) (k : BitVec 2) (e : BitVec 8) : (s.setReply k e).pending = s.pending := rfl
@[simp] theorem State.setReply_answers (s : State) (k : BitVec 2) (e : BitVec 8) : (s.setReply k e).answers = s.answers := rfl
@[simp] theorem State.setReply_draws (s : State) (k : BitVec 2) (e : BitVec 8) : (s.setReply k e).draws = s.draws := rfl
@[simp] theorem State.setReply_resets (s : State) (k : BitVec 2) (e : BitVec 8) : (s.setReply k e).resets = s.resets := rfl

/-! ### `State.setIdentity` -/

@[simp] theorem State.setIdentity_params (s : State) : (s.setIdentity).params = s.params := rfl
@[simp] theorem State.setIdentity_cfg (s : State) : (s.setIdentity).cfg = s.cfg := rfl
@[simp] theorem State.setIdentity_status (s : State) : (s.setIdentity).status = s.status := rfl
@[simp] theorem State.setIdentity_code (s : State) : (s.setIdentity).code = s.code := rfl
@[simp] theorem State.setIdentity_seq (s : State) : (s.setIdentity).seq = s.seq := rfl
@[simp] theorem State.setIdentity_mode (s : State) : (s.setIdentity).mode = s.mode := rfl
@[simp] theorem State.setIdentity_blen (s : State) : (s.setIdentity).blen = s.blen := rfl
@[simp] theorem State.setIdentity_cap (s : State) : (s.setIdentity).cap = s.cap := rfl
@[simp] theorem State.setIdentity_rlen (s : State) : (s.setIdentity).rlen = s.rlen := rfl
@[simp] theorem State.setIdentity_soff (s : State) : (s.setIdentity).soff = s.soff := rfl
@[simp] theorem State.setIdentity_slen (s : State) : (s.setIdentity).slen = s.slen := rfl
@[simp] theorem State.setIdentity_olen (s : State) : (s.setIdentity).olen = s.olen := rfl
@[simp] theorem State.setIdentity_rcode (s : State) : (s.setIdentity).rcode = s.rcode := rfl
@[simp] theorem State.setIdentity_rctrl (s : State) : (s.setIdentity).rctrl = s.rctrl := rfl
@[simp] theorem State.setIdentity_raddr (s : State) : (s.setIdentity).raddr = s.raddr := rfl
@[simp] theorem State.setIdentity_poff (s : State) : (s.setIdentity).poff = s.poff := rfl
@[simp] theorem State.setIdentity_plen (s : State) : (s.setIdentity).plen = s.plen := rfl
@[simp] theorem State.setIdentity_trl (s : State) : (s.setIdentity).trl = s.trl := rfl
@[simp] theorem State.setIdentity_rkind (s : State) : (s.setIdentity).rkind = s.rkind := rfl
@[simp] theorem State.setIdentity_rerr (s : State) : (s.setIdentity).rerr = s.rerr := rfl
@[simp] theorem State.setIdentity_qcount (s : State) : (s.setIdentity).qcount = s.qcount := rfl
@[simp] theorem State.setIdentity_queue (s : State) : (s.setIdentity).queue = s.queue := rfl
@[simp] theorem State.setIdentity_cbuf (s : State) : (s.setIdentity).cbuf = s.cbuf := rfl
@[simp] theorem State.setIdentity_txbuf (s : State) : (s.setIdentity).txbuf = s.txbuf := rfl
@[simp] theorem State.setIdentity_rxbuf (s : State) : (s.setIdentity).rxbuf = s.rxbuf := rfl
@[simp] theorem State.setIdentity_pending (s : State) : (s.setIdentity).pending = s.pending := rfl
@[simp] theorem State.setIdentity_answers (s : State) : (s.setIdentity).answers = s.answers := rfl
@[simp] theorem State.setIdentity_draws (s : State) : (s.setIdentity).draws = s.draws := rfl
@[simp] theorem State.setIdentity_resets (s : State) : (s.setIdentity).resets = s.resets := rfl

/-! ### `State.withPending` -/

@[simp] theorem State.withPending_params (s : State) (rest : List Event) : (s.withPending rest).params = s.params := rfl
@[simp] theorem State.withPending_cfg (s : State) (rest : List Event) : (s.withPending rest).cfg = s.cfg := rfl
@[simp] theorem State.withPending_status (s : State) (rest : List Event) : (s.withPending rest).status = s.status := rfl
@[simp] theorem State.withPending_code (s : State) (rest : List Event) : (s.withPending rest).code = s.code := rfl
@[simp] theorem State.withPending_seq (s : State) (rest : List Event) : (s.withPending rest).seq = s.seq := rfl
@[simp] theorem State.withPending_mode (s : State) (rest : List Event) : (s.withPending rest).mode = s.mode := rfl
@[simp] theorem State.withPending_blen (s : State) (rest : List Event) : (s.withPending rest).blen = s.blen := rfl
@[simp] theorem State.withPending_cap (s : State) (rest : List Event) : (s.withPending rest).cap = s.cap := rfl
@[simp] theorem State.withPending_rlen (s : State) (rest : List Event) : (s.withPending rest).rlen = s.rlen := rfl
@[simp] theorem State.withPending_soff (s : State) (rest : List Event) : (s.withPending rest).soff = s.soff := rfl
@[simp] theorem State.withPending_slen (s : State) (rest : List Event) : (s.withPending rest).slen = s.slen := rfl
@[simp] theorem State.withPending_olen (s : State) (rest : List Event) : (s.withPending rest).olen = s.olen := rfl
@[simp] theorem State.withPending_rcode (s : State) (rest : List Event) : (s.withPending rest).rcode = s.rcode := rfl
@[simp] theorem State.withPending_rctrl (s : State) (rest : List Event) : (s.withPending rest).rctrl = s.rctrl := rfl
@[simp] theorem State.withPending_raddr (s : State) (rest : List Event) : (s.withPending rest).raddr = s.raddr := rfl
@[simp] theorem State.withPending_poff (s : State) (rest : List Event) : (s.withPending rest).poff = s.poff := rfl
@[simp] theorem State.withPending_plen (s : State) (rest : List Event) : (s.withPending rest).plen = s.plen := rfl
@[simp] theorem State.withPending_trl (s : State) (rest : List Event) : (s.withPending rest).trl = s.trl := rfl
@[simp] theorem State.withPending_rkind (s : State) (rest : List Event) : (s.withPending rest).rkind = s.rkind := rfl
@[simp] theorem State.withPending_rerr (s : State) (rest : List Event) : (s.withPending rest).rerr = s.rerr := rfl
@[simp] theorem State.withPending_idVendor (s : State) (rest : List Event) : (s.withPending rest).idVendor = s.idVendor := rfl
@[simp] theorem State.withPending_idModel (s : State) (rest : List Event) : (s.withPending rest).idModel = s.idModel := rfl
@[simp] theorem State.withPending_idVersion (s : State) (rest : List Event) : (s.withPending rest).idVersion = s.idVersion := rfl
@[simp] theorem State.withPending_idSerial (s : State) (rest : List Event) : (s.withPending rest).idSerial = s.idSerial := rfl
@[simp] theorem State.withPending_idFw (s : State) (rest : List Event) : (s.withPending rest).idFw = s.idFw := rfl
@[simp] theorem State.withPending_qcount (s : State) (rest : List Event) : (s.withPending rest).qcount = s.qcount := rfl
@[simp] theorem State.withPending_queue (s : State) (rest : List Event) : (s.withPending rest).queue = s.queue := rfl
@[simp] theorem State.withPending_cbuf (s : State) (rest : List Event) : (s.withPending rest).cbuf = s.cbuf := rfl
@[simp] theorem State.withPending_txbuf (s : State) (rest : List Event) : (s.withPending rest).txbuf = s.txbuf := rfl
@[simp] theorem State.withPending_rxbuf (s : State) (rest : List Event) : (s.withPending rest).rxbuf = s.rxbuf := rfl
@[simp] theorem State.withPending_answers (s : State) (rest : List Event) : (s.withPending rest).answers = s.answers := rfl
@[simp] theorem State.withPending_draws (s : State) (rest : List Event) : (s.withPending rest).draws = s.draws := rfl
@[simp] theorem State.withPending_resets (s : State) (rest : List Event) : (s.withPending rest).resets = s.resets := rfl

/-! ### `State.record` -/

@[simp] theorem State.record_params (s : State) (a : Answer) : (s.record a).params = s.params := rfl
@[simp] theorem State.record_cfg (s : State) (a : Answer) : (s.record a).cfg = s.cfg := rfl
@[simp] theorem State.record_status (s : State) (a : Answer) : (s.record a).status = s.status := rfl
@[simp] theorem State.record_code (s : State) (a : Answer) : (s.record a).code = s.code := rfl
@[simp] theorem State.record_seq (s : State) (a : Answer) : (s.record a).seq = s.seq := rfl
@[simp] theorem State.record_mode (s : State) (a : Answer) : (s.record a).mode = s.mode := rfl
@[simp] theorem State.record_blen (s : State) (a : Answer) : (s.record a).blen = s.blen := rfl
@[simp] theorem State.record_cap (s : State) (a : Answer) : (s.record a).cap = s.cap := rfl
@[simp] theorem State.record_rlen (s : State) (a : Answer) : (s.record a).rlen = s.rlen := rfl
@[simp] theorem State.record_soff (s : State) (a : Answer) : (s.record a).soff = s.soff := rfl
@[simp] theorem State.record_slen (s : State) (a : Answer) : (s.record a).slen = s.slen := rfl
@[simp] theorem State.record_olen (s : State) (a : Answer) : (s.record a).olen = s.olen := rfl
@[simp] theorem State.record_rcode (s : State) (a : Answer) : (s.record a).rcode = s.rcode := rfl
@[simp] theorem State.record_rctrl (s : State) (a : Answer) : (s.record a).rctrl = s.rctrl := rfl
@[simp] theorem State.record_raddr (s : State) (a : Answer) : (s.record a).raddr = s.raddr := rfl
@[simp] theorem State.record_poff (s : State) (a : Answer) : (s.record a).poff = s.poff := rfl
@[simp] theorem State.record_plen (s : State) (a : Answer) : (s.record a).plen = s.plen := rfl
@[simp] theorem State.record_trl (s : State) (a : Answer) : (s.record a).trl = s.trl := rfl
@[simp] theorem State.record_rkind (s : State) (a : Answer) : (s.record a).rkind = s.rkind := rfl
@[simp] theorem State.record_rerr (s : State) (a : Answer) : (s.record a).rerr = s.rerr := rfl
@[simp] theorem State.record_idVendor (s : State) (a : Answer) : (s.record a).idVendor = s.idVendor := rfl
@[simp] theorem State.record_idModel (s : State) (a : Answer) : (s.record a).idModel = s.idModel := rfl
@[simp] theorem State.record_idVersion (s : State) (a : Answer) : (s.record a).idVersion = s.idVersion := rfl
@[simp] theorem State.record_idSerial (s : State) (a : Answer) : (s.record a).idSerial = s.idSerial := rfl
@[simp] theorem State.record_idFw (s : State) (a : Answer) : (s.record a).idFw = s.idFw := rfl
@[simp] theorem State.record_qcount (s : State) (a : Answer) : (s.record a).qcount = s.qcount := rfl
@[simp] theorem State.record_queue (s : State) (a : Answer) : (s.record a).queue = s.queue := rfl
@[simp] theorem State.record_cbuf (s : State) (a : Answer) : (s.record a).cbuf = s.cbuf := rfl
@[simp] theorem State.record_txbuf (s : State) (a : Answer) : (s.record a).txbuf = s.txbuf := rfl
@[simp] theorem State.record_rxbuf (s : State) (a : Answer) : (s.record a).rxbuf = s.rxbuf := rfl
@[simp] theorem State.record_pending (s : State) (a : Answer) : (s.record a).pending = s.pending := rfl
@[simp] theorem State.record_draws (s : State) (a : Answer) : (s.record a).draws = s.draws := rfl
@[simp] theorem State.record_resets (s : State) (a : Answer) : (s.record a).resets = s.resets := rfl

/-! ### The fields an update writes -/

@[simp] theorem State.setErr_status (s : State) (e : Err) :
    (s.setErr e).status = packStatus e.code (statusRV s.status) (statusQV s.status) := rfl

@[simp] theorem State.setRV_status (s : State) (b : Bool) :
    (s.setRV b).status = packStatus (statusErr s.status) b (statusQV s.status) := rfl

@[simp] theorem State.setQV_status (s : State) (b : Bool) :
    (s.setQV b).status = packStatus (statusErr s.status) (statusRV s.status) b := rfl

@[simp] theorem State.mem_setMem (s : State) (sp : Space) (m : Memory) : (s.setMem sp m).mem sp = m := by
  cases sp <;> rfl

theorem State.mem_setMem_ne (s : State) {sp sp' : Space} (m : Memory) (h : sp' ≠ sp) :
    (s.setMem sp m).mem sp' = s.mem sp' := by
  cases sp <;> cases sp' <;> first | rfl | exact absurd rfl h

@[simp] theorem State.setQueue_queue (s : State) (q : List QEntry) : (s.setQueue q).queue = q := rfl

@[simp] theorem State.setQueue_qcount (s : State) (q : List QEntry) : (s.setQueue q).qcount = countWord q := rfl

@[simp] theorem State.deliver_code (s : State) (e : QEntry) : (s.deliver e).code = e.code := rfl

@[simp] theorem State.deliver_blen (s : State) (e : QEntry) :
    (s.deliver e).blen = BitVec.ofNat 16 e.body.length := rfl

@[simp] theorem State.deliver_cbuf (s : State) (e : QEntry) :
    (s.deliver e).cbuf = Memory.storeAll e.body 0 s.cbuf := rfl

@[simp] theorem State.setReply_rkind (s : State) (k : BitVec 2) (e : BitVec 8) : (s.setReply k e).rkind = k := rfl

@[simp] theorem State.setReply_rerr (s : State) (k : BitVec 2) (e : BitVec 8) : (s.setReply k e).rerr = e := rfl

@[simp] theorem State.withPending_pending (s : State) (rest : List Event) : (s.withPending rest).pending = rest := rfl

@[simp] theorem State.record_answers (s : State) (a : Answer) : (s.record a).answers = a :: s.answers := rfl

/-! ### The written bytes, space by space -/

@[simp] theorem State.mem_cbuf (s : State) : s.mem .cbuf = s.cbuf := rfl

@[simp] theorem State.mem_txbuf (s : State) : s.mem .txbuf = s.txbuf := rfl

@[simp] theorem State.mem_rxbuf (s : State) : s.mem .rxbuf = s.rxbuf := rfl

/-! ### Reset (70_reset_and_hazards.md R215) -/

@[simp] theorem State.resetBlock_params (s : State) : s.resetBlock.params = s.params := rfl

@[simp] theorem State.resetBlock_status (s : State) : s.resetBlock.status = 0 := rfl

@[simp] theorem State.resetBlock_cap (s : State) : s.resetBlock.cap = 0 := rfl

@[simp] theorem State.resetBlock_rlen (s : State) : s.resetBlock.rlen = 0 := rfl

@[simp] theorem State.resetBlock_queue (s : State) : s.resetBlock.queue = [] := rfl

@[simp] theorem State.resetBlock_qcount (s : State) : s.resetBlock.qcount = 0 := rfl

@[simp] theorem State.resetBlock_mem (s : State) (sp : Space) : s.resetBlock.mem sp = [] := by cases sp <;> rfl

@[simp] theorem State.resetBlock_pending (s : State) : s.resetBlock.pending = s.pending := rfl

end Sys2Proof.Machine
end

