-- ==== Sys2Proof/Laws/Memory.lean ====
section
/-! SUPPORT. Buffers: a read after a write, a write leaves every other index alone, and every operation on the written
bytes keeps their canonical form and their bound. -/

namespace Sys2Proof.Machine

/-! ### One space -/

theorem Memory.lookup_store (m : Memory) (i j : Nat) (b : Byte) :
    Memory.lookup (Memory.store m i b) j = if j = i then some b else Memory.lookup m j := by
  induction m with
  | nil => simp [Memory.store, Memory.lookup]
  | cons c m ih =>
    obtain ⟨a, c⟩ := c
    simp only [Memory.store]
    split_ifs with h1 h2 h3 h3 <;> simp only [Memory.lookup, ih] <;> split_ifs <;> first | rfl | omega

theorem Memory.lookup_storeAll (bs : List Byte) (i : Nat) (m : Memory) (j : Nat) :
    Memory.lookup (Memory.storeAll bs i m) j =
      if i ≤ j ∧ j < i + bs.length then bs[j - i]? else Memory.lookup m j := by
  induction bs generalizing i m with
  | nil => simp [Memory.storeAll]
  | cons b bs ih =>
    simp only [Memory.storeAll, ih, Memory.lookup_store, List.length_cons]
    rcases Nat.lt_trichotomy j i with h | h | h
    · rw [if_neg (by omega), if_neg (by omega), if_neg (by omega)]
    · subst h; simp
    · have hk : j - i = (j - (i + 1)) + 1 := by omega
      by_cases hl : j < i + 1 + bs.length
      · rw [if_pos (by omega), if_pos (by omega), hk, List.getElem?_cons_succ]
      · rw [if_neg (by omega), if_neg (by omega), if_neg (by omega)]

theorem Memory.mem_store {m : Memory} {i : Nat} {b : Byte} {c : Host.Cell} (h : c ∈ Memory.store m i b) :
    c = (i, b) ∨ c ∈ m := by
  induction m with
  | nil => simpa [Memory.store] using h
  | cons d m ih =>
    obtain ⟨a, d⟩ := d
    simp only [Memory.store] at h
    split_ifs at h <;> simp only [List.mem_cons] at h ⊢ <;> tauto

theorem Memory.store_wf {m : Memory} (h : m.wf) (i : Nat) (b : Byte) : (Memory.store m i b).wf := by
  induction m with
  | nil => simp [Memory.store, Memory.wf]
  | cons d m ih =>
    obtain ⟨a, d⟩ := d
    obtain ⟨hd, hm⟩ := List.pairwise_cons.mp h
    simp only [Memory.store]
    split_ifs with h1 h2
    · refine List.pairwise_cons.mpr ⟨fun c hc => ?_, h⟩
      rcases List.mem_cons.mp hc with rfl | hc
      · exact h1
      · exact lt_trans h1 (hd c hc)
    · exact List.pairwise_cons.mpr ⟨fun c hc => h2 ▸ hd c hc, hm⟩
    · refine List.pairwise_cons.mpr ⟨fun c hc => ?_, ih hm⟩
      rcases Memory.mem_store hc with rfl | hc
      · show a < i; omega
      · exact hd c hc

theorem Memory.storeAll_wf {m : Memory} (h : m.wf) (bs : List Byte) (i : Nat) : (Memory.storeAll bs i m).wf := by
  induction bs generalizing i m with
  | nil => exact h
  | cons b bs ih => exact ih (Memory.store_wf h i b) (i + 1)

theorem Memory.store_within {m : Memory} {n i : Nat} (h : m.within n) (hi : i < n) (b : Byte) :
    (Memory.store m i b).within n := by
  intro c hc
  rcases Memory.mem_store hc with rfl | hc
  · exact hi
  · exact h c hc

theorem Memory.storeAll_within {m : Memory} {n : Nat} (h : m.within n) (bs : List Byte) (i : Nat)
    (hi : i + bs.length ≤ n) : (Memory.storeAll bs i m).within n := by
  induction bs generalizing i m with
  | nil => exact h
  | cons b bs ih =>
    simp only [List.length_cons] at hi
    exact ih (Memory.store_within h (by omega) b) (i + 1) (by omega)

/-! ### The three spaces -/

@[simp] theorem State.size_cbuf (s : State) : s.size .cbuf = s.params.maxBody := rfl

@[simp] theorem State.size_txbuf (s : State) : s.size .txbuf = s.params.txCap := rfl

@[simp] theorem State.size_rxbuf (s : State) : s.size .rxbuf = s.params.rxCap := rfl

/-- A byte depends only on the written bytes of its space and on the number of resets. -/
theorem State.byteAt_congr {s t : State} {sp : Space} (hm : s.mem sp = t.mem sp) (hr : s.resets = t.resets) (i : Nat) :
    s.byteAt sp i = t.byteAt sp i := by
  simp only [State.byteAt, hm, hr]

theorem State.span_congr {s t : State} {sp : Space} {lo n : Nat}
    (h : ∀ k, k < n → s.byteAt sp (lo + k) = t.byteAt sp (lo + k)) : s.span sp lo n = t.span sp lo n := by
  simp only [State.span]
  exact List.map_congr_left (fun k hk => h k (List.mem_range.mp hk))

@[simp] theorem State.length_span (s : State) (sp : Space) (lo n : Nat) : (s.span sp lo n).length = n := by
  simp [State.span]

@[simp] theorem State.getElem?_span (s : State) (sp : Space) (lo n k : Nat) :
    (s.span sp lo n)[k]? = if k < n then some (s.byteAt sp (lo + k)) else none := by
  simp only [State.span, List.getElem?_map]
  split_ifs with h
  · simp [List.getElem?_range h]
  · simp [h]

/-- What a write of consecutive bytes leaves in its own space. -/
theorem State.byteAt_storeBytes (s : State) (sp : Space) (i : Nat) (bs : List Byte) (j : Nat) :
    (s.storeBytes sp i bs).byteAt sp j =
      if i ≤ j ∧ j < i + bs.length then (bs[j - i]?).getD 0 else s.byteAt sp j := by
  simp only [State.byteAt, State.storeBytes, State.mem_setMem, Memory.lookup_storeAll, State.setMem_resets]
  split_ifs with h
  · have hk : j - i < bs.length := by omega
    simp [List.getElem?_eq_getElem hk]
  · rfl

/-- A write leaves the other spaces alone. -/
theorem State.byteAt_storeBytes_ne (s : State) {sp sp' : Space} (i : Nat) (bs : List Byte) (j : Nat) (h : sp' ≠ sp) :
    (s.storeBytes sp i bs).byteAt sp' j = s.byteAt sp' j :=
  State.byteAt_congr (State.mem_setMem_ne s _ h) (by simp) j

/-- A byte a write did not touch. -/
theorem State.byteAt_storeBytes_of_not (s : State) (sp sp' : Space) (i : Nat) (bs : List Byte) (j : Nat)
    (h : ¬ (sp' = sp ∧ i ≤ j ∧ j < i + bs.length)) : (s.storeBytes sp i bs).byteAt sp' j = s.byteAt sp' j := by
  by_cases hs : sp' = sp
  · subst hs
    rw [State.byteAt_storeBytes, if_neg (fun hc => h ⟨rfl, hc⟩)]
  · exact State.byteAt_storeBytes_ne s i bs j hs

/-- Reading back what was just written. -/
theorem State.span_storeBytes (s : State) (sp : Space) (i : Nat) (bs : List Byte) :
    (s.storeBytes sp i bs).span sp i bs.length = bs := by
  apply List.ext_getElem?
  intro k
  rw [State.getElem?_span]
  split_ifs with h
  · rw [State.byteAt_storeBytes, if_pos (by omega)]
    simp [List.getElem?_eq_getElem h]
  · simp [List.getElem?_eq_none (not_lt.mp h)]

/-! ### The canonical form is kept -/

theorem State.mem_storeBytes (s : State) (sp : Space) (i : Nat) (bs : List Byte) :
    (s.storeBytes sp i bs).mem sp = Memory.storeAll bs i (s.mem sp) := by
  simp [State.storeBytes]

theorem State.mem_storeBytes_ne (s : State) {sp sp' : Space} (i : Nat) (bs : List Byte) (h : sp' ≠ sp) :
    (s.storeBytes sp i bs).mem sp' = s.mem sp' := State.mem_setMem_ne s _ h

theorem State.storeBytes_wf {s : State} (h : ∀ sp, (s.mem sp).wf) (sp : Space) (i : Nat) (bs : List Byte) (sp' : Space) :
    ((s.storeBytes sp i bs).mem sp').wf := by
  by_cases hs : sp' = sp
  · subst hs
    rw [State.mem_storeBytes]
    exact Memory.storeAll_wf (h sp') bs i
  · rw [State.mem_storeBytes_ne s i bs hs]
    exact h sp'

/-- The canonical form holds after reset, where nothing is listed. -/
theorem State.resetWith_wf (p : Params) (sp : Space) : ((State.resetWith p).mem sp).wf := by
  cases sp <;> exact List.Pairwise.nil

theorem State.size_congr {s t : State} (h : s.params = t.params) (sp : Space) : s.size sp = t.size sp := by
  cases sp <;> simp [State.size, h]

theorem State.storeBytes_within {s : State} (h : ∀ sp, (s.mem sp).within (s.size sp)) {sp : Space} {i : Nat}
    {bs : List Byte} (hb : i + bs.length ≤ s.size sp) (sp' : Space) :
    ((s.storeBytes sp i bs).mem sp').within (s.size sp') := by
  by_cases hs : sp' = sp
  · subst hs
    rw [State.mem_storeBytes]
    exact Memory.storeAll_within (h sp') bs i hb
  · rw [State.mem_storeBytes_ne s i bs hs]
    exact h sp'

end Sys2Proof.Machine
end

