-- ==== Sys2Proof/Laws/Ops.lean ====
section
/-! SUPPORT. For each shared operation, one lemma that says everything it can do; later proofs cite these and do not
unfold the operations. -/

namespace Sys2Proof.Machine

/-! ### The end of an operation -/

@[simp] theorem State.raise_eq (s : State) (e : Err) : s.raise e = .next (s.setErr e) := rfl

@[simp] theorem State.done_eq (s : State) : s.done = .next (s.setErr .ok) := rfl

@[simp] theorem State.illegalOp_eq (s : State) : s.illegalOp = .next (s.setErr .illegalOp) := rfl

theorem State.setErr_eq_of_fields (s : State) (e : Err) :
    s.setErr e = { s with status := (s.setErr e).status } := rfl

/-- Within its space, an operation does what follows the bound check. -/
theorem State.touchBelow_of_le {s : State} {sp : Space} {n : Nat} (h : n ≤ s.size sp)
    (k : Host.Outcome State Fault Refusal) : s.touchBelow sp n k = k := if_pos h

/-- Past the end of its space, it faults. -/
theorem State.touchBelow_of_lt {s : State} {sp : Space} {n : Nat} (h : s.size sp < n)
    (k : Host.Outcome State Fault Refusal) : s.touchBelow sp n k = .fault (.outsideBuffer sp n) :=
  if_neg (Nat.not_le.mpr h)

theorem State.touchBelow_next {s t : State} {sp : Space} {n : Nat} {k : Host.Outcome State Fault Refusal}
    (h : s.touchBelow sp n k = .next t) : n ≤ s.size sp ∧ k = .next t := by
  unfold State.touchBelow at h
  split_ifs at h with hn
  exact ⟨hn, h⟩

theorem State.whenPresent_of {s : State} {i : Instr} (h : i.wellFormed s.params = true)
    (k : Host.Outcome State Fault Refusal) : s.whenPresent i k = k := if_pos h

theorem State.whenPresent_absent {s : State} {i : Instr} (h : i.wellFormed s.params = false)
    (k : Host.Outcome State Fault Refusal) : s.whenPresent i k = .next (s.setErr .illegalOp) := by
  unfold State.whenPresent
  rw [if_neg (by simp [h])]
  rfl

theorem State.whenPresent_next {s t : State} {i : Instr} {k : Host.Outcome State Fault Refusal}
    (h : s.whenPresent i k = .next t) :
    (i.wellFormed s.params = true ∧ k = .next t) ∨
      (i.wellFormed s.params = false ∧ t = s.setErr .illegalOp) := by
  cases hw : i.wellFormed s.params
  · rw [State.whenPresent_absent hw] at h
    exact .inr ⟨rfl, (Host.Outcome.next.inj h).symm⟩
  · exact .inl ⟨rfl, by rwa [State.whenPresent_of hw] at h⟩

/-! ### The standalone trailer operations (40_trailer.md R115, R116) -/

/-- The state a GEN operation ends in when its trailer fits. -/
def State.generated (s : State) (m : BitVec 1) : State :=
  ({ s.storeBytes .txbuf s.spanEnd (tbytes m (s.span .txbuf s.soff.toNat s.slen.toNat)) with
      trl := tvalue m (s.span .txbuf s.soff.toNat s.slen.toNat) }).setErr .ok

theorem State.generateTrailer_fits {s : State} {m : BitVec 1} (h : s.spanEnd + tlen m ≤ s.params.txCap) :
    s.generateTrailer m = .next (s.generated m) := if_neg (Nat.not_lt.mpr h)

theorem State.generateTrailer_overflow {s : State} {m : BitVec 1} (h : s.params.txCap < s.spanEnd + tlen m) :
    s.generateTrailer m = .next (({ s with trl := 0 }).setErr .capacityExceeded) := if_pos h

/-- The state a CHK operation ends in when the received bytes contain span and trailer. -/
def State.checked (s : State) (m : BitVec 1) : State :=
  ({ s with trl := tvalue m (s.span .rxbuf s.soff.toNat s.slen.toNat) }).setErr
    (if tok m (s.span .rxbuf s.soff.toNat s.slen.toNat) (s.span .rxbuf s.spanEnd (tlen m)) then .ok
     else .integrityError)

theorem State.checkTrailer_fits {s : State} {m : BitVec 1} (h : s.spanEnd + tlen m ≤ s.rlen.toNat)
    (hr : s.rlen.toNat ≤ s.params.rxCap) : s.checkTrailer m = .next (s.checked m) := by
  unfold State.checkTrailer
  rw [if_neg (Nat.not_lt.mpr h), State.touchBelow_of_le (sp := .rxbuf) (le_trans h hr)]
  unfold State.checked
  dsimp only
  split_ifs <;> rfl

theorem State.checkTrailer_short {s : State} {m : BitVec 1} (h : s.rlen.toNat < s.spanEnd + tlen m) :
    s.checkTrailer m = .next (({ s with trl := 0 }).setErr .lengthMismatch) := if_pos h

theorem State.checkTrailer_next {s t : State} {m : BitVec 1} (h : s.checkTrailer m = .next t) :
    (s.rlen.toNat < s.spanEnd + tlen m ∧ t = ({ s with trl := 0 }).setErr .lengthMismatch) ∨
      (s.spanEnd + tlen m ≤ s.rlen.toNat ∧ t = s.checked m) := by
  by_cases hl : s.rlen.toNat < s.spanEnd + tlen m
  · rw [State.checkTrailer_short hl] at h
    exact .inl ⟨hl, (Host.Outcome.next.inj h).symm⟩
  · refine .inr ⟨Nat.not_lt.mp hl, ?_⟩
    unfold State.checkTrailer at h
    rw [if_neg hl] at h
    have h2 := (State.touchBelow_next h).2
    unfold State.checked
    dsimp only at h2
    split_ifs at h2 ⊢ <;> exact (Host.Outcome.next.inj h2).symm

theorem State.generateTrailer_next {s t : State} {m : BitVec 1} (h : s.generateTrailer m = .next t) :
    (s.params.txCap < s.spanEnd + tlen m ∧ t = ({ s with trl := 0 }).setErr .capacityExceeded) ∨
      (s.spanEnd + tlen m ≤ s.params.txCap ∧ t = s.generated m) := by
  by_cases hl : s.params.txCap < s.spanEnd + tlen m
  · rw [State.generateTrailer_overflow hl] at h
    exact .inl ⟨hl, (Host.Outcome.next.inj h).symm⟩
  · rw [State.generateTrailer_fits (Nat.not_lt.mp hl)] at h
    exact .inr ⟨Nat.not_lt.mp hl, (Host.Outcome.next.inj h).symm⟩

/-! ### BUILD (41_build.md R131) -/

/-- The bytes a failed BUILD draws for TXBUF[0..CAP). -/
def State.drawnBytes (s : State) : List Byte :=
  (List.range s.cap.toNat).map (fun k => Config.freeByte (s.draws + k))

@[simp] theorem State.length_drawnBytes (s : State) : s.drawnBytes.length = s.cap.toNat := by
  simp [State.drawnBytes]

/-- The state a failed BUILD ends in. -/
def State.buildFailed (s : State) : State :=
  ({ s.storeBytes .txbuf 0 s.drawnBytes with olen := 0, draws := s.draws + s.cap.toNat + 1 }).setErr s.buildError

/-- The state a successful BUILD ends in. -/
def State.built (s : State) : State :=
  ({ s.storeBytes .txbuf 0 s.frame with olen := BitVec.ofNat 16 s.frameLength }).setErr .ok

/-- BUILD has no error to report: the body is within MAX_BODY and the frame within CAP. -/
def State.Buildable (s : State) : Prop := s.blen.toNat ≤ s.params.maxBody ∧ s.frameLength ≤ s.cap.toNat

theorem State.buildable_iff (s : State) : s.Buildable ↔ ¬ (s.tooLarge || s.tooSmall) = true := by
  simp [State.Buildable, State.tooLarge, State.tooSmall]

theorem execBuild_of_buildable {s : State} (h : s.Buildable) (hc : s.cap.toNat ≤ s.params.txCap) :
    execBuild s = .next s.built := by
  unfold execBuild
  rw [if_neg (s.buildable_iff.mp h), State.touchBelow_of_le (sp := .txbuf) (le_trans h.2 hc)]
  rfl

theorem execBuild_of_not {s : State} (h : ¬ s.Buildable) (hc : s.cap.toNat ≤ s.params.txCap) :
    execBuild s = .next s.buildFailed := by
  unfold execBuild
  rw [if_pos (not_not.mp (fun hn => h (s.buildable_iff.mpr hn))), State.touchBelow_of_le (sp := .txbuf) hc]
  rfl

theorem execBuild_next {s t : State} (h : execBuild s = .next t) :
    (s.Buildable ∧ s.frameLength ≤ s.params.txCap ∧ t = s.built) ∨
      (¬ s.Buildable ∧ s.cap.toNat ≤ s.params.txCap ∧ t = s.buildFailed) := by
  unfold execBuild at h
  split_ifs at h with hc
  · obtain ⟨hb, h2⟩ := State.touchBelow_next h
    exact .inr ⟨fun hn => s.buildable_iff.mp hn hc, hb, (Host.Outcome.next.inj h2).symm⟩
  · obtain ⟨hb, h2⟩ := State.touchBelow_next h
    exact .inl ⟨s.buildable_iff.mpr hc, hb, (Host.Outcome.next.inj h2).symm⟩

theorem State.buildError_cases (s : State) :
    s.buildError = .payloadTooLarge ∨ s.buildError = .capacityExceeded := by
  unfold State.buildError
  split
  · split <;> simp
  · split <;> simp

theorem State.buildError_ne_ok (s : State) : s.buildError ≠ .ok := by
  rcases s.buildError_cases with h | h <;> simp [h]

@[simp] theorem tlen_pos (m : BitVec 1) : 1 ≤ tlen m := by unfold tlen; split_ifs <;> omega

@[simp] theorem tlen_le (m : BitVec 1) : tlen m ≤ 2 := by unfold tlen; split_ifs <;> omega

@[simp] theorem length_tbytes (m : BitVec 1) (span : List Byte) : (tbytes m span).length = tlen m := by
  unfold tbytes tlen; split_ifs <;> rfl

@[simp] theorem State.length_body (s : State) : s.body.length = s.blen.toNat := by simp [State.body]

@[simp] theorem State.length_frameHeader (s : State) : s.frameHeader.length = 7 := rfl

@[simp] theorem State.length_frame (s : State) : s.frame.length = s.frameLength := by
  simp [State.frame, State.frameLength, Nat.add_assoc]

/-! ### DECODE (42_decode.md R146) -/

/-- The state a failed DECODE ends in. -/
def State.decodeFailed (s : State) (e : Err) : State :=
  (({ s with rcode := 0, rctrl := 0, raddr := 0, poff := 0, plen := 0 }).setRV false).setErr e

/-- The state a successful DECODE ends in. -/
def State.decoded (s : State) : State :=
  (({ s with
      rcode := s.byteAt .rxbuf 6
      rctrl := s.rxCtrl
      raddr := s.byteAt .rxbuf 2
      poff := 7
      plen := BitVec.ofNat 16 (s.rlen.toNat - 7 - s.rxTlen) }).setRV true).setErr .ok

theorem execDecode_of_error {s : State} {e : Err} (h : s.decodeError = some e)
    (hr : s.rlen.toNat ≤ s.params.rxCap) : execDecode s = .next (s.decodeFailed e) := by
  unfold execDecode
  rw [State.touchBelow_of_le (sp := .rxbuf) hr, h]
  rfl

theorem execDecode_of_none {s : State} (h : s.decodeError = none) (hr : s.rlen.toNat ≤ s.params.rxCap) :
    execDecode s = .next s.decoded := by
  unfold execDecode
  rw [State.touchBelow_of_le (sp := .rxbuf) hr, h]
  rfl

theorem execDecode_next {s t : State} (h : execDecode s = .next t) :
    s.rlen.toNat ≤ s.params.rxCap ∧
      ((∃ e, s.decodeError = some e ∧ t = s.decodeFailed e) ∨ (s.decodeError = none ∧ t = s.decoded)) := by
  unfold execDecode at h
  obtain ⟨hb, h2⟩ := State.touchBelow_next h
  refine ⟨hb, ?_⟩
  cases hd : s.decodeError with
  | none => rw [hd] at h2; exact .inr ⟨rfl, (Host.Outcome.next.inj h2).symm⟩
  | some e => rw [hd] at h2; exact .inl ⟨e, rfl, (Host.Outcome.next.inj h2).symm⟩

/-- DECODE succeeds exactly when all four checks pass (42_decode.md R146). -/
theorem State.decodeError_none_iff (s : State) :
    s.decodeError = none ↔
      (s.params.checkMark = true → s.byteAt .rxbuf 0 = markByte) ∧ s.byteAt .rxbuf 1 = somByte ∧
        s.rxLen.toNat = s.rlen.toNat - 1 ∧ 7 + s.rxTlen ≤ s.rlen.toNat ∧
        tok (ctrlMode s.rxCtrl) s.rxSpan s.rxTrailer = true ∧
        (cfgAchk s.cfg = true → byteAddr (s.byteAt .rxbuf 2) = cfgAddr s.cfg) := by
  have hp : 1 ≤ s.rxTlen := tlen_pos _
  unfold State.decodeError
  dsimp only
  split_ifs with h1 h2 h3 h4 h5 h6 h7 h8
  all_goals simp only [false_iff, true_iff]
  all_goals try simp only [Bool.and_eq_true, bne_iff_ne, Bool.not_eq_true'] at *
  · rintro ⟨-, -, -, h, -⟩; omega
  · rintro ⟨h, -⟩; exact h2.2 (h h2.1)
  · rintro ⟨-, h, -⟩; exact h3 h
  · rintro ⟨-, -, -, h, -⟩; omega
  · rintro ⟨-, -, h, -⟩; exact h5 h
  · rintro ⟨-, -, -, h, -⟩; omega
  · rintro ⟨-, -, -, -, h, -⟩; rw [h7] at h; cases h
  · rintro ⟨-, -, -, -, -, h⟩; exact h8.2 (h h8.1)
  · refine ⟨fun h => not_not.mp fun hn => h2 ⟨h, hn⟩, not_not.mp h3, not_not.mp h5, Nat.not_lt.mp h6, ?_,
      fun h => not_not.mp fun hn => h8 ⟨h, hn⟩⟩
    cases ht : tok (ctrlMode s.rxCtrl) s.rxSpan s.rxTrailer
    · exact absurd ht h7
    · rfl

theorem State.decodeError_ne_ok {s : State} {e : Err} (h : s.decodeError = some e) : e ≠ .ok := by
  unfold State.decodeError at h
  dsimp only at h
  split_ifs at h <;> (cases h; simp)

/-! ### The queue (43_companions.md R167 to R171) -/

theorem execQenq_next {s t : State} (h : execQenq s = .next t) :
    (s.params.hasQ = false ∧ t = s.setErr .illegalOp) ∨
      (s.params.hasQ = true ∧ s.params.maxBody < s.blen.toNat ∧ t = s.setErr .payloadTooLarge) ∨
      (s.params.hasQ = true ∧ s.blen.toNat ≤ s.params.maxBody ∧ s.queue.length = s.params.qCap ∧
        t = s.setErr .queueFull) ∨
      (s.params.hasQ = true ∧ s.blen.toNat ≤ s.params.maxBody ∧ s.queue.length ≠ s.params.qCap ∧
        t = (s.setQueue (s.queue ++ [s.command])).setErr .ok) := by
  rcases State.whenPresent_next h with ⟨hp, h2⟩ | ⟨hp, h2⟩
  · split_ifs at h2 with h3 h4
    · exact .inr (.inl ⟨hp, h3, (Host.Outcome.next.inj h2).symm⟩)
    · exact .inr (.inr (.inl ⟨hp, Nat.not_lt.mp h3, h4, (Host.Outcome.next.inj h2).symm⟩))
    · exact .inr (.inr (.inr ⟨hp, Nat.not_lt.mp h3, h4, (Host.Outcome.next.inj h2).symm⟩))
  · exact .inl ⟨hp, h2⟩

theorem execQpeek_next {s t : State} (h : execQpeek s = .next t) :
    (s.params.hasQ = false ∧ t = s.setErr .illegalOp) ∨
      (s.params.hasQ = true ∧ s.queue = [] ∧ t = (s.setQV false).setErr .ok) ∨
      (∃ e rest, s.params.hasQ = true ∧ s.queue = e :: rest ∧ e.body.length ≤ s.params.maxBody ∧
        t = ((s.deliver e).setQV true).setErr .ok) := by
  rcases State.whenPresent_next h with ⟨hp, h2⟩ | ⟨hp, h2⟩
  · cases hq : s.queue with
    | nil => rw [hq] at h2; exact .inr (.inl ⟨hp, rfl, (Host.Outcome.next.inj h2).symm⟩)
    | cons e rest =>
      rw [hq] at h2
      obtain ⟨hb, h3⟩ := State.touchBelow_next h2
      exact .inr (.inr ⟨e, rest, hp, rfl, hb, (Host.Outcome.next.inj h3).symm⟩)
  · exact .inl ⟨hp, h2⟩

theorem execQdeq_next {s t : State} (h : execQdeq s = .next t) :
    (s.params.hasQ = false ∧ t = s.setErr .illegalOp) ∨
      (s.params.hasQ = true ∧ s.queue = [] ∧ t = (s.setQV false).setErr .ok) ∨
      (∃ e rest, s.params.hasQ = true ∧ s.queue = e :: rest ∧ e.body.length ≤ s.params.maxBody ∧
        t = (((s.deliver e).setQueue rest).setQV true).setErr .ok) := by
  rcases State.whenPresent_next h with ⟨hp, h2⟩ | ⟨hp, h2⟩
  · cases hq : s.queue with
    | nil => rw [hq] at h2; exact .inr (.inl ⟨hp, rfl, (Host.Outcome.next.inj h2).symm⟩)
    | cons e rest =>
      rw [hq] at h2
      obtain ⟨hb, h3⟩ := State.touchBelow_next h2
      exact .inr (.inr ⟨e, rest, hp, rfl, hb, (Host.Outcome.next.inj h3).symm⟩)
  · exact .inl ⟨hp, h2⟩

theorem execQrst_next {s t : State} (h : execQrst s = .next t) :
    (s.params.hasQ = false ∧ t = s.setErr .illegalOp) ∨
      (s.params.hasQ = true ∧ t = ((s.setQueue []).setQV false).setErr .ok) := by
  rcases State.whenPresent_next h with ⟨hp, h2⟩ | ⟨hp, h2⟩
  · exact .inr ⟨hp, (Host.Outcome.next.inj h2).symm⟩
  · exact .inl ⟨hp, h2⟩

/-! ### The reply interpreter (43_companions.md R178) -/

/-- Everything a RPLY that runs can do. -/
theorem State.interpret_next {s t : State} (h : s.interpret = .next t) :
    (s.rcode = s.params.codePdid ∧ s.plen.toNat < 12 ∧ t = (s.setReply 0 0).setErr .shortPayload) ∨
      (s.rcode = s.params.codePdid ∧ 12 ≤ s.plen.toNat ∧ t = (s.setIdentity.setReply 3 0).setErr .ok) ∨
      (s.rcode ≠ s.params.codePdid ∧ s.rcode = s.params.codeNak ∧ s.plen.toNat < 1 ∧
        t = (s.setReply 0 0).setErr .shortPayload) ∨
      (s.rcode ≠ s.params.codePdid ∧ s.rcode = s.params.codeNak ∧ 1 ≤ s.plen.toNat ∧
        t = (s.setReply 2 (s.payloadByte 0)).setErr .ok) ∨
      (s.rcode ≠ s.params.codePdid ∧ s.rcode ≠ s.params.codeNak ∧ s.rcode = s.params.codeAck ∧
        t = (s.setReply 1 0).setErr .ok) ∨
      (s.rcode ≠ s.params.codePdid ∧ s.rcode ≠ s.params.codeNak ∧ s.rcode ≠ s.params.codeAck ∧
        t = (s.setReply 0 0).setErr .ok) := by
  unfold State.interpret at h
  split_ifs at h with h1 h2 h3 h4 h5
  · exact .inl ⟨h1, h2, (Host.Outcome.next.inj h).symm⟩
  · exact .inr (.inl ⟨h1, Nat.not_lt.mp h2, (Host.Outcome.next.inj h).symm⟩)
  · exact .inr (.inr (.inl ⟨h1, h3, h4, (Host.Outcome.next.inj h).symm⟩))
  · exact .inr (.inr (.inr (.inl ⟨h1, h3, Nat.not_lt.mp h4, (Host.Outcome.next.inj h).symm⟩)))
  · exact .inr (.inr (.inr (.inr (.inl ⟨h1, h3, h5, (Host.Outcome.next.inj h).symm⟩))))
  · exact .inr (.inr (.inr (.inr (.inr ⟨h1, h3, h5, (Host.Outcome.next.inj h).symm⟩))))

theorem execRply_next {s t : State} (h : execRply s = .next t) :
    (s.params.hasR = false ∧ t = s.setErr .illegalOp) ∨
      (s.params.hasR = true ∧ statusRV s.status = false ∧ t = (s.setReply 0 0).setErr .illegalOp) ∨
      (s.params.hasR = true ∧ statusRV s.status = true ∧ s.poff.toNat + s.plen.toNat ≤ s.params.rxCap ∧
        s.interpret = .next t) := by
  rcases State.whenPresent_next h with ⟨hp, h2⟩ | ⟨hp, h2⟩
  · split_ifs at h2 with hv
    · obtain ⟨hb, h3⟩ := State.touchBelow_next h2
      exact .inr (.inr ⟨hp, hv, hb, h3⟩)
    · exact .inr (.inl ⟨hp, by simpa using hv, (Host.Outcome.next.inj h2).symm⟩)
  · exact .inl ⟨hp, h2⟩

/-! ### One step -/

/-- A step on an event that starts no operation. -/
theorem step_access {s : State} {e : Event} {rest : List Event} (hl : s.params.legal = true)
    (hp : s.pending = e :: rest) (hc : e.command = none) : step s = .next ((s.withPending rest).access e) := by
  simp [step, State.fetch, hl, hp, hc]

/-- A step on a write of an assigned code to CMD. -/
theorem step_operation {s : State} {e : Event} {rest : List Event} {op : Byte} {i : Instr}
    (hl : s.params.legal = true) (hp : s.pending = e :: rest) (hc : e.command = some op) (hd : decodeOp op = .ok i) :
    step s = exec i (s.withPending rest) := by
  simp [step, State.fetch, hl, hp, hc, hd]

/-- A step on a write of an unassigned code to CMD. -/
theorem step_unassigned {s : State} {e : Event} {rest : List Event} {op : Byte} {x : DecodeError}
    (hl : s.params.legal = true) (hp : s.pending = e :: rest) (hc : e.command = some op)
    (hd : decodeOp op = .error x) : step s = .next ((s.withPending rest).setErr .illegalOp) := by
  simp [step, State.fetch, hl, hp, hc, hd]

/-- Everything a step that answers a next state can do. -/
theorem step_next {s t : State} (h : step s = .next t) :
    s.params.legal = true ∧
      ((s.pending = [] ∧ t = s) ∨
        ∃ e rest, s.pending = e :: rest ∧
          ((e.command = none ∧ t = (s.withPending rest).access e) ∨
            (∃ op i, e.command = some op ∧ decodeOp op = .ok i ∧ exec i (s.withPending rest) = .next t) ∨
            (∃ op x, e.command = some op ∧ decodeOp op = .error x ∧
              t = (s.withPending rest).setErr .illegalOp))) := by
  unfold step at h
  split_ifs at h with hl
  refine ⟨hl, ?_⟩
  unfold State.fetch at h
  cases hp : s.pending with
  | nil => rw [hp] at h; exact .inl ⟨rfl, (Host.Outcome.next.inj h).symm⟩
  | cons e rest =>
    rw [hp] at h
    refine .inr ⟨e, rest, rfl, ?_⟩
    dsimp only at h
    cases hc : e.command with
    | none => rw [hc] at h; exact .inl ⟨rfl, (Host.Outcome.next.inj h).symm⟩
    | some op =>
      rw [hc] at h
      dsimp only at h
      cases hd : decodeOp op with
      | ok i => rw [hd] at h; exact .inr (.inl ⟨op, i, rfl, hd, h⟩)
      | error x => rw [hd] at h; exact .inr (.inr ⟨op, x, rfl, hd, (Host.Outcome.next.inj h).symm⟩)

end Sys2Proof.Machine
end

