-- ==== Sys2Proof/Laws/Trailer.lean ====
section
/-! SUPPORT. The algebra of the trailer functions (40_trailer.md R121 to R124): a CRC step is linear over XOR and loses
nothing, and the checksum accumulator is a sum. -/

namespace Sys2Proof.Machine

/-! ### Bytes of a word -/

@[simp] theorem littleEndian16_bytes (v : BitVec 16) : littleEndian16 (lowByte v) (highByte v) = v := by
  apply BitVec.eq_of_getLsbD_eq
  intro i hi
  simp only [littleEndian16, lowByte, highByte, BitVec.getLsbD_append, BitVec.getLsbD_extractLsb']
  split_ifs with h
  · simp [h]
  · have h8 : 8 + (i - 8) = i := by omega
    have h9 : i - 8 < 8 := by omega
    simp [h8, h9]

theorem littleEndian16_toNat (lo hi : Byte) : (littleEndian16 lo hi).toNat = lo.toNat + 256 * hi.toNat := by
  have h := lo.isLt
  simp only [littleEndian16, BitVec.toNat_append, Nat.shiftLeft_eq]
  rw [Nat.mul_comm, ← Nat.two_pow_add_eq_or_of_lt h]
  omega

theorem littleEndian16_inj {a b c d : Byte} (h : littleEndian16 a b = littleEndian16 c d) : a = c ∧ b = d := by
  have hn := congrArg BitVec.toNat h
  rw [littleEndian16_toNat, littleEndian16_toNat] at hn
  have h1 := a.isLt
  have h2 := b.isLt
  have h3 := c.isLt
  have h4 := d.isLt
  exact ⟨BitVec.eq_of_toNat_eq (by omega), BitVec.eq_of_toNat_eq (by omega)⟩

/-! ### The CRC -/

theorem crcShift_xor (a b : BitVec 16) : crcShift (a ^^^ b) = crcShift a ^^^ crcShift b := by
  unfold crcShift
  simp only [BitVec.getLsbD_xor, BitVec.shiftLeft_xor_distrib]
  cases ha : a.getLsbD 15 <;> cases hb : b.getLsbD 15 <;> simp
  · rw [BitVec.xor_assoc]
  · rw [BitVec.xor_assoc, BitVec.xor_comm _ (4129#16), ← BitVec.xor_assoc]
  · rw [BitVec.xor_assoc, ← BitVec.xor_assoc (4129#16), BitVec.xor_comm (4129#16), BitVec.xor_assoc (b <<< 1)]
    simp

theorem crcShifts_xor (n : Nat) (a b : BitVec 16) : crcShifts n (a ^^^ b) = crcShifts n a ^^^ crcShifts n b := by
  induction n generalizing a b with
  | zero => rfl
  | succ n ih => simp only [crcShifts, crcShift_xor, ih]

/-- The polynomial has a constant term, so a shift can be undone. -/
theorem crcShift_eq_zero {a : BitVec 16} (h : crcShift a = 0) : a = 0 := by
  unfold crcShift at h
  split_ifs at h with h15
  · have h0 := congrArg (fun v => v.getLsbD 0) h
    simp at h0
  · apply BitVec.eq_of_getLsbD_eq
    intro i hi
    by_cases hi15 : i = 15
    · subst hi15; simpa using h15
    · have hb := congrArg (fun v => v.getLsbD (i + 1)) h
      simpa [show i + 1 < 16 by omega, BitVec.getLsbD_eq_getElem hi] using hb

theorem crcShifts_eq_zero {n : Nat} {a : BitVec 16} (h : crcShifts n a = 0) : a = 0 := by
  induction n generalizing a with
  | zero => exact h
  | succ n ih => exact crcShift_eq_zero (ih h)

theorem crcShifts_inj {n : Nat} {a b : BitVec 16} (h : crcShifts n a = crcShifts n b) : a = b := by
  have hx : crcShifts n (a ^^^ b) = 0 := by rw [crcShifts_xor, h, BitVec.xor_self]; rfl
  exact BitVec.xor_eq_zero_iff.mp (crcShifts_eq_zero hx)

/-- Two accumulators fed the same byte stay different. -/
theorem crcStep_inj_left {c d : BitVec 16} {b : Byte} (h : crcStep c b = crcStep d b) : c = d :=
  (BitVec.xor_left_inj _).mp (crcShifts_inj h)

/-- One accumulator fed two different bytes becomes two. -/
theorem crcStep_inj_right {c : BitVec 16} {a b : Byte} (h : crcStep c a = crcStep c b) : a = b := by
  have h1 := (BitVec.xor_right_inj _).mp (crcShifts_inj h)
  apply BitVec.eq_of_getLsbD_eq
  intro i hi
  have h2 := congrArg (fun v => v.getLsbD (i + 8)) h1
  rwa [BitVec.getLsbD_append, BitVec.getLsbD_append, if_neg (by omega), if_neg (by omega),
    Nat.add_sub_cancel] at h2

theorem crcFold_inj {c d : BitVec 16} (bs : List Byte) (h : bs.foldl crcStep c = bs.foldl crcStep d) : c = d := by
  induction bs generalizing c d with
  | nil => exact h
  | cons b bs ih => exact crcStep_inj_left (ih h)

/-! ### The checksum -/

theorem ckFold_eq (bs : List Byte) (a : Byte) : bs.foldl ckStep a = a + bs.foldl ckStep 0 := by
  induction bs generalizing a with
  | nil => simp
  | cons b bs ih =>
    simp only [List.foldl_cons]
    rw [ih (ckStep a b), ih (ckStep 0 b)]
    simp only [ckStep, zero_add, add_assoc]

theorem ckFold_toNat (bs : List Byte) : (bs.foldl ckStep 0).toNat = (bs.map BitVec.toNat).sum % 256 := by
  induction bs with
  | nil => rfl
  | cons b bs ih =>
    rw [List.foldl_cons, ckFold_eq]
    simp only [ckStep, zero_add, BitVec.toNat_add, ih, List.map_cons, List.sum_cons]
    omega

end Sys2Proof.Machine
end

