-- ==== Sys2Proof/Laws/Frame.lean ====
section
/-! SUPPORT. The bytes of the frame BUILD writes (30_encoding.md R80, 41_build.md R131), what a queue entry leaves in CBUF
(43_companions.md R168), and STATUS.ERR as a number. -/

namespace Sys2Proof.Machine

/-! ### STATUS.ERR -/

theorem State.err_setErr (s : State) (e : Err) : (s.setErr e).err = e.code.toNat := by simp [State.err]

theorem State.err_setErr_ne_zero (s : State) {e : Err} (h : e ≠ .ok) : (s.setErr e).err ≠ 0 := by
  rw [State.err_setErr]
  cases e <;> simp_all [Err.code]

/-! ### The frame as a byte sequence -/

theorem lowByte_highByte_ofNat {n : Nat} (h : n < 65536) :
    (lowByte (BitVec.ofNat 16 n)).toNat + 256 * (highByte (BitVec.ofNat 16 n)).toNat = n := by
  rw [← littleEndian16_toNat, littleEndian16_bytes, BitVec.toNat_ofNat]
  omega

theorem addressByte_toNat (c : BitVec 9) :
    (addressByte c).toNat = c.toNat % 128 + 128 * (c.toNat / 128 % 2) := by
  revert c; decide +kernel

theorem controlByte_toNat (q : BitVec 2) (m : BitVec 1) : (controlByte q m).toNat = q.toNat + 4 * m.toNat := by
  revert q m; decide +kernel

@[simp] theorem State.length_frameSpan (s : State) : s.frameSpan.length = 6 + s.blen.toNat := by
  simp [State.frameSpan]

/-- A body byte of the frame. -/
theorem State.frame_body (s : State) {i : Nat} (h : i < s.blen.toNat) :
    s.frame[7 + i]? = some (s.byteAt .cbuf i) := by
  unfold State.frame
  rw [List.append_assoc, List.getElem?_append_right (by simp), List.getElem?_append_left (by simp; omega)]
  show (s.span .cbuf 0 s.blen.toNat)[_]? = _
  rw [State.getElem?_span, if_pos (by simp; omega)]
  simp

/-- A trailer byte of the frame. -/
theorem State.frame_trailer (s : State) (i : Nat) :
    s.frame[7 + s.blen.toNat + i]? = (tbytes s.mode s.frameSpan)[i]? := by
  unfold State.frame
  rw [List.getElem?_append_right (by simp)]
  simp

/-- A byte of the span within the frame. -/
theorem State.frame_span (s : State) {i : Nat} (h : i < 6 + s.blen.toNat) : s.frame[1 + i]? = s.frameSpan[i]? := by
  have hf : s.frame = markByte :: (s.frameSpan ++ tbytes s.mode s.frameSpan) := by
    simp [State.frame, State.frameSpan, State.frameHeader]
  rw [hf, Nat.add_comm, List.getElem?_cons_succ, List.getElem?_append_left (by rw [State.length_frameSpan]; exact h)]

/-- A byte BUILD wrote. -/
theorem State.built_byte (s : State) {i : Nat} (h : i < s.frameLength) :
    s.built.byteAt .txbuf i = (s.frame[i]?).getD 0 := by
  show (s.storeBytes .txbuf 0 s.frame).byteAt .txbuf i = _
  rw [State.byteAt_storeBytes, if_pos (by simp; omega)]
  simp

/-- A built frame is shorter than 65536 bytes. -/
theorem State.Buildable.frameLength_lt {s : State} (h : s.Buildable) : s.frameLength < 65536 :=
  lt_of_le_of_lt h.2 s.cap.isLt

theorem State.built_olen {s : State} (h : s.Buildable) : s.built.olen.toNat = s.frameLength := by
  show (BitVec.ofNat 16 s.frameLength).toNat = _
  rw [BitVec.toNat_ofNat, Nat.mod_eq_of_lt h.frameLength_lt]

/-! ### A delivered queue entry -/

/-- The bytes a delivered entry leaves in CBUF. -/
theorem State.deliver_body (s : State) (e : QEntry) {i : Nat} (h : i < e.body.length) :
    e.body[i]? = some ((s.deliver e).byteAt .cbuf i) := by
  show _ = some ((s.storeBytes .cbuf 0 e.body).byteAt .cbuf i)
  rw [State.byteAt_storeBytes, if_pos (by omega)]
  simp [List.getElem?_eq_getElem h]

/-- The bytes of CBUF behind a delivered entry. -/
theorem State.deliver_behind (s : State) (e : QEntry) {i : Nat} (h : e.body.length ≤ i) :
    (s.deliver e).byteAt .cbuf i = s.byteAt .cbuf i := by
  show (s.storeBytes .cbuf 0 e.body).byteAt .cbuf i = _
  exact State.byteAt_storeBytes_of_not s .cbuf .cbuf 0 e.body i (by simp; omega)

end Sys2Proof.Machine
end

