-- ==== Sys2Proof/Laws/PerInstr.lean ====
section
/-! SUPPORT. Statements for all operations, made per operation: the code of an operation decodes to it. -/

namespace Sys2Proof.Laws.CodeRoundTrip

/-- The decoder reads an operation's code as that operation (30_encoding.md R94). -/
def Statement (i : Instr) : Prop := decodeOp (encode i) = .ok i

theorem cksum8Gen : Statement .cksum8Gen := rfl

theorem cksum8Chk : Statement .cksum8Chk := rfl

theorem crc16Gen : Statement .crc16Gen := rfl

theorem crc16Chk : Statement .crc16Chk := rfl

theorem build : Statement .build := rfl

theorem decode : Statement .decode := rfl

theorem qenq : Statement .qenq := rfl

theorem qpeek : Statement .qpeek := rfl

theorem qdeq : Statement .qdeq := rfl

theorem qrst : Statement .qrst := rfl

theorem rply : Statement .rply := rfl

end Sys2Proof.Laws.CodeRoundTrip
end

