-- ==== Sys2Proof/Laws/Step.lean ====
section
/-! SUPPORT. Runs of several steps, the register map, and the host's list and the parameters under an access. -/

namespace Sys2Proof.Machine

/-- One step of a run. -/
theorem core_run_succ {s t : State} (h : step s = .next t) (k : Nat) :
    Host.Core.run Sys2Proof.core (k + 1) s = Host.Core.run Sys2Proof.core k t := by
  have hc : Sys2Proof.core.step s = .next t := h
  simp only [Host.Core.run, hc]

/-- A write to any number but CMD's starts no operation. -/
theorem Event.command_of_ne {n : Nat} (h : n ≠ 0x01) (v : HostWord) : (Event.regWrite n v).command = none := if_neg h

/-! ### The register map -/

/-- A read of a register that is present returns its value. -/
theorem State.regRead_present {s : State} {n : Nat} {r : Reg} (hn : regOfNumber n = some r)
    (hp : s.params.has r.part = true) : s.regRead n = s.readReg r := by
  simp only [State.regRead, hn, hp, if_true]

/-- A read of an unmapped number, or of a register of an absent unit, returns 0. -/
theorem State.regRead_absent {s : State} {n : Nat} (h : ∀ r, regOfNumber n = some r → s.params.has r.part = false) :
    s.regRead n = 0 := by
  unfold State.regRead
  split
  · rename_i r hr; simp [h r hr]
  · rfl

/-- A write to a register that is present is the register's own write. -/
theorem State.regWrite_present {s : State} {n : Nat} {r : Reg} (hn : regOfNumber n = some r)
    (hp : s.params.has r.part = true) (v : HostWord) : s.regWrite n v = s.writeReg v r := by
  simp only [State.regWrite, hn, hp, if_true]

/-- A write to an unmapped number, or to a register of an absent unit, changes nothing. -/
theorem State.regWrite_absent {s : State} {n : Nat} (h : ∀ r, regOfNumber n = some r → s.params.has r.part = false)
    (v : HostWord) : s.regWrite n v = s := by
  unfold State.regWrite
  split
  · rename_i r hr; simp [h r hr]
  · rfl

/-- A write to a read-only register changes nothing. -/
theorem State.writeReg_readOnly (s : State) (v : HostWord) {r : Reg} (h : r.access = .readOnly) :
    s.writeReg v r = s := by
  cases r <;> first | rfl | cases h

/-! ### Accesses -/

/-- Reaching a line puts its transactions first and changes nothing else. -/
@[simp] theorem State.access_line (s : State) (l : ScriptLine) :
    s.access (.line l) = s.withPending (l.expand s ++ s.pending) := rfl

/-- What the host still has to do after an event: what it had, and before it, for a line, the line's transactions. -/
theorem State.access_pending (s : State) (e : Event) :
    (s.access e).pending = (match e with | .line l => l.expand s | _ => []) ++ s.pending := by
  cases e with
  | line l => rfl
  | regRead n => rfl
  | bufRead sp i => rfl
  | reset => rfl
  | bufWrite sp i b =>
    show (s.bufWrite sp i b).pending = _
    unfold State.bufWrite
    split_ifs
    · cases sp <;> simp [State.storeBytes]
    · rfl
  | regWrite n v =>
    show (s.regWrite n v).pending = _
    unfold State.regWrite
    split
    · rename_i r _
      split_ifs
      · cases r <;> rfl
      · rfl
    · rfl

/-- A host access never changes the parameters. -/
theorem State.access_params (s : State) (e : Event) : (s.access e).params = s.params := by
  cases e with
  | line l => rfl
  | regRead n => rfl
  | bufRead sp i => rfl
  | reset => rfl
  | bufWrite sp i b =>
    show (s.bufWrite sp i b).params = _
    unfold State.bufWrite
    split_ifs
    · cases sp <;> simp [State.storeBytes]
    · rfl
  | regWrite n v =>
    show (s.regWrite n v).params = _
    unfold State.regWrite
    split
    · rename_i r _
      split_ifs
      · cases r <;> rfl
      · rfl
    · rfl

end Sys2Proof.Machine
end

