-- ==== Sys2Proof/Tests/Slice0.lean ====
section
/-! SUPPORT. The model's own tests. Every expected value is written out from 95_test_vectors.md (named by its id) or from
the rule named. After them, for every statement that has hypotheses, a state and operands that meet them. -/

namespace Sys2Proof.Tests

set_option Elab.async false

open Sys2Proof Sys2Proof.Machine

/-! ### Helpers -/

/-- Whether an outcome is a next state with a property. -/
def after (o : Host.Outcome State Fault Refusal) (p : State → Bool) : Bool :=
  match o with
  | .next t => p t
  | .fault _ => false
  | .refused _ => false

/-- Whether an outcome is this fault. -/
def faults (o : Host.Outcome State Fault Refusal) (f : Fault) : Bool :=
  match o with
  | .next _ => false
  | .fault g => decide (g = f)
  | .refused _ => false

/-- The reset state with received bytes in RXBUF (the script line RECV). -/
def recv (bs : List Byte) : State :=
  { State.reset with rxbuf := Memory.storeAll bs 0 [], rlen := BitVec.ofNat 16 bs.length }

/-- The reset state with bytes in TXBUF from an index, and the span operands. -/
def spanned (i : Nat) (bs : List Byte) (off len : BitVec 16) : State :=
  { State.reset with txbuf := Memory.storeAll bs i [], soff := off, slen := len }

/-- The reset state with a command staged for BUILD; CFG is ADDR 0x65 (DIR 0), as in most vectors. -/
def staged (code : Byte) (body : List Byte) (seq : BitVec 2) (mode : BitVec 1) (cap : BitVec 16) : State :=
  { State.reset with
    cfg := 0x065#9, code := code, cbuf := Memory.storeAll body 0 [], blen := BitVec.ofNat 16 body.length,
    seq := seq, mode := mode, cap := cap }

/-- A state with other parameters. -/
def withParams (p : Params) (s : State) : State := { s with params := p }

/-- The state with one transaction to come. -/
def next (e : Event) (s : State) : State := { s with pending := [e] }

/-- The bytes of TXBUF from index 0. -/
def tx (t : State) (n : Nat) : List Byte := t.span .txbuf 0 n

/-- The source's example frame (95_test_vectors.md S2). -/
def frameS2 : List Byte := [0xFF#8, 0x53#8, 0x65#8, 0x08#8, 0x00#8, 0x04#8, 0x60#8, 0x60#8, 0x90#8]

/-- The identification reply of vector V-R4. -/
def framePdid : List Byte :=
  [0xFF#8, 0x53#8, 0xE5#8, 0x14#8, 0x00#8, 0x06#8, 0x45#8] ++
    [0xA1#8, 0xA2#8, 0xA3#8, 0xB1#8, 0xC1#8, 0xD1#8, 0xD2#8, 0xD3#8, 0xD4#8, 0xE1#8, 0xE2#8, 0xE3#8] ++
    [0x3A#8, 0x2F#8]

/-- A state after a successful DECODE of a reply with the payload length and code given, as RPLY reads it. -/
def validated (code : Byte) (bs : List Byte) (plen : BitVec 16) : State :=
  { recv bs with status := packStatus 0 true false, rcode := code, poff := 7, plen := plen }

/-- Two queued commands (43_companions.md R168, example). -/
def queued : State :=
  { State.reset with
    queue := [⟨0x6A#8, [0x65#8, 0x00#8, 0x0A#8, 0x0A#8, 0x00#8]⟩, ⟨0x60#8, []⟩], qcount := 2 }

/-- A full queue (QCAP is 3). -/
def fullQueue : State :=
  { State.reset with queue := [⟨1#8, []⟩, ⟨2#8, []⟩, ⟨3#8, []⟩], qcount := 3 }

/-! ### Well-formed configurations and operations: a term each check refuses -/

theorem test_legal_test_vectors : Params.testVectors.legal = true ∧ Params.namedBlock.legal = true := by decide

theorem test_illformed_maxBody : { Params.testVectors with maxBody := 65528 }.legalSizes = false := by decide

theorem test_illformed_txCap_low : { Params.testVectors with txCap := 8 }.legalSizes = false := by decide

theorem test_illformed_txCap_high : { Params.testVectors with txCap := 65536 }.legalSizes = false := by decide

theorem test_illformed_rxCap_low : { Params.testVectors with rxCap := 8 }.legalSizes = false := by decide

theorem test_illformed_rxCap_high : { Params.testVectors with rxCap := 65536 }.legalSizes = false := by decide

theorem test_illformed_qCap : { Params.testVectors with qCap := 0 }.legalQueue = false := by decide

theorem test_illformed_ack_nak : { Params.testVectors with codeNak := 0x40#8 }.legalCodes = false := by decide

theorem test_illformed_ack_pdid : { Params.testVectors with codePdid := 0x40#8 }.legalCodes = false := by decide

theorem test_illformed_nak_pdid : { Params.testVectors with codePdid := 0x41#8 }.legalCodes = false := by decide

theorem test_illformed_absent_queue : Instr.qenq.wellFormed Params.namedBlock = false := by decide

theorem test_illformed_absent_interpreter : Instr.rply.wellFormed Params.namedBlock = false := by decide

/-! ### Decoding: words written out bit by bit from 30_encoding.md R94 -/

theorem test_decode_cksum8Gen : decodeOp 0b00000001#8 = .ok .cksum8Gen := by decide

theorem test_decode_cksum8Chk : decodeOp 0b00000010#8 = .ok .cksum8Chk := by decide

theorem test_decode_crc16Gen : decodeOp 0b00000011#8 = .ok .crc16Gen := by decide

theorem test_decode_crc16Chk : decodeOp 0b00000100#8 = .ok .crc16Chk := by decide

theorem test_decode_build : decodeOp 0b00010000#8 = .ok .build := by decide

theorem test_decode_decode : decodeOp 0b00010001#8 = .ok .decode := by decide

theorem test_decode_qenq : decodeOp 0b00100000#8 = .ok .qenq := by decide

theorem test_decode_qpeek : decodeOp 0b00100001#8 = .ok .qpeek := by decide

theorem test_decode_qdeq : decodeOp 0b00100010#8 = .ok .qdeq := by decide

theorem test_decode_qrst : decodeOp 0b00100011#8 = .ok .qrst := by decide

theorem test_decode_rply : decodeOp 0b00110000#8 = .ok .rply := by decide

theorem test_decode_refuses : decodeOp 0b00000000#8 = .error (.unassignedOp 0b00000000#8) := by decide

theorem test_table_word : decodeTableWord 8 0x30 = some .rply ∧ decodeTableWord 8 0x24 = none := by decide

/-- `withFetchWord` makes the next step run the operation (P5, first line: BUILD in the reset state reports
CapacityExceeded). -/
theorem test_fetch_word : after (step (State.reset.withFetchWord 8 0x10)) (fun t => t.err = 1) = true := by decide +kernel

/-! ### The trailer functions (V-T1, V-T5, V-T7, V-T8; the table of R124) -/

theorem test_cksum8 :
    cksum8 [] = 0x00#8 ∧ cksum8 [0x80#8, 0x80#8] = 0x00#8 ∧
      cksum8 [0x53#8, 0x65#8, 0x07#8, 0x00#8, 0x00#8, 0x60#8] = 0xE1#8 := by decide

theorem test_crc16 :
    crc16 [] = 0x1D0F#16 ∧ crc16 [0x80#8, 0x80#8] = 0x0ED0#16 ∧
      crc16 [0x31#8, 0x32#8, 0x33#8, 0x34#8, 0x35#8, 0x36#8, 0x37#8, 0x38#8, 0x39#8] = 0xE5CC#16 := by
  decide +kernel

theorem test_crc_table : crcTable 2 = 0x2042#16 ∧ crcTable 0x80 = 0x9188#16 := by decide +kernel

/-! ### The standalone trailer operations -/

/-- V-G2: the byte behind the checksum stays. -/
theorem test_cksum8Gen :
    after (exec .cksum8Gen (spanned 1 [0x53#8, 0x65#8, 0x08#8, 0x00#8, 0x04#8, 0x60#8, 0x60#8, 0x90#8] 1 6))
      (fun t => t.err = 0 ∧ t.trl = 0x00DC#16 ∧ t.byteAt .txbuf 7 = 0xDC#8 ∧ t.byteAt .txbuf 8 = 0x90#8) = true := by
  decide +kernel

/-- V-G6: the last byte of TXBUF. -/
theorem test_cksum8Gen_last :
    after (exec .cksum8Gen (spanned 0 [] 1279 0)) (fun t => t.err = 0 ∧ t.byteAt .txbuf 1279 = 0x00#8) = true := by
  decide +kernel

/-- V-C5 and V-C6. -/
theorem test_cksum8Chk :
    after (exec .cksum8Chk { recv [0xFF#8, 0x53#8, 0x65#8, 0x07#8, 0x00#8, 0x00#8, 0x60#8, 0xE1#8] with soff := 1, slen := 6 })
      (fun t => t.err = 0 ∧ t.trl = 0x00E1#16) = true ∧
    after (exec .cksum8Chk { recv [0xFF#8, 0x53#8, 0x65#8, 0x07#8, 0x00#8, 0x00#8, 0x60#8, 0xE0#8] with soff := 1, slen := 6 })
      (fun t => t.err = 5 ∧ t.trl = 0x00E1#16) = true := by
  decide +kernel

/-- V-C7. -/
theorem test_cksum8Chk_short :
    after (exec .cksum8Chk { recv [0xFF#8, 0x53#8, 0x65#8, 0x07#8, 0x00#8, 0x00#8, 0x60#8, 0xE0#8] with soff := 1, slen := 7 })
      (fun t => t.err = 4 ∧ t.trl = 0) = true := by
  decide +kernel

/-- V-G1. -/
theorem test_crc16Gen :
    after (exec .crc16Gen (spanned 1 [0x53#8, 0x65#8, 0x08#8, 0x00#8, 0x04#8, 0x60#8] 1 6))
      (fun t => t.err = 0 ∧ t.trl = 0x9060#16 ∧ t.byteAt .txbuf 7 = 0x60#8 ∧ t.byteAt .txbuf 8 = 0x90#8) = true := by
  decide +kernel

/-- V-G7 and V-G8: no room for the second byte; the sum does not wrap. -/
theorem test_crc16Gen_overflow :
    after (exec .crc16Gen (spanned 0 [] 1279 0)) (fun t => t.err = 1 ∧ t.trl = 0 ∧ t.txbuf = []) = true ∧
      after (exec .crc16Gen (spanned 0 [] 0xFFFF 0xFFFF)) (fun t => t.err = 1) = true := by
  decide +kernel

/-- V-C1 and V-C3. -/
theorem test_crc16Chk :
    after (exec .crc16Chk { recv frameS2 with soff := 1, slen := 6 }) (fun t => t.err = 0 ∧ t.trl = 0x9060#16) = true ∧
      after (exec .crc16Chk { recv frameS2 with soff := 0, slen := 7 })
        (fun t => t.err = 5 ∧ t.trl = 0x1C5D#16) = true := by
  decide +kernel

/-- V-C4. -/
theorem test_crc16Chk_short :
    after (exec .crc16Chk { recv frameS2 with soff := 0, slen := 8 }) (fun t => t.err = 4 ∧ t.trl = 0) = true := by
  decide +kernel

/-! ### BUILD -/

/-- V-B1 at its exact capacity (V-B11). -/
theorem test_build_crc :
    after (exec .build (staged 0x60#8 [] 0 1 9)) (fun t => t.err = 0 ∧ t.olen = 9 ∧ tx t 9 = frameS2) = true := by
  decide +kernel

/-- V-B7. -/
theorem test_build_checksum :
    after (exec .build (staged 0x6A#8 [0x65#8, 0x00#8, 0x0A#8, 0x0A#8, 0x00#8] 0 0 64))
      (fun t => t.err = 0 ∧ tx t 13 = [0xFF#8, 0x53#8, 0x65#8, 0x0C#8, 0x00#8, 0x00#8, 0x6A#8, 0x65#8, 0x00#8, 0x0A#8,
        0x0A#8, 0x00#8, 0x59#8]) = true := by
  decide +kernel

/-- V-B12 and V-B15: the capacity is short by one byte, or zero (then nothing in TXBUF changes). -/
theorem test_build_capacity :
    after (exec .build (staged 0x60#8 [] 0 1 8)) (fun t => t.err = 1 ∧ t.olen = 0) = true ∧
      after (exec .build (staged 0x60#8 [] 0 0 0)) (fun t => t.err = 1 ∧ t.txbuf = []) = true := by
  decide +kernel

/-- V-B24: both errors hold; the order decides. -/
theorem test_build_both :
    after (exec .build (withParams { Params.testVectors with buildErrOrder := .capacityFirst }
        { staged 0x80#8 [] 0 1 10 with blen := 1025 })) (fun t => t.err = 1) = true ∧
      after (exec .build (withParams { Params.testVectors with buildErrOrder := .payloadFirst }
        { staged 0x80#8 [] 0 1 10 with blen := 1025 })) (fun t => t.err = 2) = true := by
  decide +kernel

/-! ### DECODE -/

/-- V-D1. -/
theorem test_decode_frame :
    after (exec .decode { recv frameS2 with cfg := 0x165#9 })
      (fun t => t.visibleStatus = 0x10#6 ∧ t.rcode = 0x60#8 ∧ t.rctrl = 0x04#8 ∧ t.raddr = 0x65#8 ∧ t.poff = 7 ∧ t.plen = 0)
      = true := by
  decide +kernel

/-- V-D15 (an address byte corrupted is an IntegrityError) and V-D24 (no room for the second trailer byte). -/
theorem test_decode_rejects :
    after (exec .decode { recv [0xFF#8, 0x53#8, 0x64#8, 0x08#8, 0x00#8, 0x04#8, 0x60#8, 0x60#8, 0x90#8] with cfg := 0x165#9 })
      (fun t => t.visibleStatus = 0x05#6 ∧ t.rcode = 0) = true ∧
    after (exec .decode { recv [0xFF#8, 0x53#8, 0x65#8, 0x07#8, 0x00#8, 0x04#8, 0x60#8, 0x00#8] with cfg := 0x165#9 })
      (fun t => t.visibleStatus = 0x04#6) = true := by
  decide +kernel

/-! ### The queue -/

/-- R167, example. -/
theorem test_qenq :
    after (exec .qenq (staged 0x6A#8 [0x65#8, 0x00#8, 0x0A#8, 0x0A#8, 0x00#8] 0 0 0))
      (fun t => t.err = 0 ∧ t.qcount = 1 ∧ t.queue = [⟨0x6A#8, [0x65#8, 0x00#8, 0x0A#8, 0x0A#8, 0x00#8]⟩]) = true := by
  decide +kernel

/-- V-Q2: a body too large is reported before a full queue. -/
theorem test_qenq_order :
    after (exec .qenq fullQueue) (fun t => t.err = 7 ∧ t.qcount = 3) = true ∧
      after (exec .qenq { fullQueue with blen := 1025 }) (fun t => t.err = 2 ∧ t.qcount = 3) = true := by
  decide +kernel

/-- R168, example. -/
theorem test_qpeek :
    after (exec .qpeek queued)
      (fun t => t.visibleStatus = 0x20#6 ∧ t.code = 0x6A#8 ∧ t.blen = 5 ∧ t.qcount = 2 ∧
        t.body = [0x65#8, 0x00#8, 0x0A#8, 0x0A#8, 0x00#8]) = true := by
  decide +kernel

/-- An empty queue is no error (R169). -/
theorem test_qpeek_empty :
    after (exec .qpeek { State.reset with status := packStatus 3 false true, code := 5 })
      (fun t => t.visibleStatus = 0x00#6 ∧ t.code = 5) = true := by
  decide +kernel

/-- R170, example. -/
theorem test_qdeq :
    after (exec .qdeq queued)
      (fun t => t.visibleStatus = 0x20#6 ∧ t.code = 0x6A#8 ∧ t.blen = 5 ∧ t.qcount = 1 ∧ t.queue = [⟨0x60#8, []⟩]) = true := by
  decide +kernel

/-- V-Q3. -/
theorem test_qrst :
    after (exec .qrst { queued with status := packStatus 0 true true })
      (fun t => t.qcount = 0 ∧ t.queue = [] ∧ t.visibleStatus = 0x10#6) = true := by
  decide +kernel

/-- V-Q4. -/
theorem test_queue_absent :
    after (exec .qrst (withParams Params.namedBlock State.reset)) (fun t => t.err = 9) = true := by
  decide +kernel

/-! ### The reply interpreter -/

/-- V-R4. -/
theorem test_rply_pdid :
    after (exec .rply (validated 0x45#8 framePdid 12))
      (fun t => t.err = 0 ∧ t.rkind = 3 ∧ t.idVendor = 0xA3A2A1#24 ∧ t.idModel = 0xB1#8 ∧ t.idVersion = 0xC1#8 ∧
        t.idSerial = 0xD4D3D2D1#32 ∧ t.idFw = 0xE1E2E3#24) = true := by
  decide +kernel

/-- V-R2 and V-R3. -/
theorem test_rply_nak :
    after (exec .rply (validated 0x41#8 [0xFF#8, 0x53#8, 0xE5#8, 0x08#8, 0x00#8, 0x03#8, 0x41#8, 0x03#8, 0x79#8] 1))
      (fun t => t.err = 0 ∧ t.rkind = 2 ∧ t.rerr = 0x03#8) = true ∧
    after (exec .rply (validated 0x41#8 [0xFF#8, 0x53#8, 0xE5#8, 0x07#8, 0x00#8, 0x03#8, 0x41#8, 0x7D#8] 0))
      (fun t => t.visibleStatus = 0x18#6 ∧ t.rkind = 0) = true := by
  decide +kernel

/-! ### Host access and the script -/

/-- V-B26 and V-B27: writes keep the low bits, and CAP is clamped. -/
theorem test_register_writes :
    (State.reset.regWrite 0x0C 70000#32).cap = 1280 ∧ (State.reset.regWrite 0x00 0xFFFFFFFF#32).cfg = 0x1FF#9 ∧
      (State.reset.regWrite 0x09 7#32).seq = 3 ∧ (State.reset.regWrite 0x08 0x1FF#32).code = 0xFF#8 := by
  decide

/-- Every mapped register has the number the map gives it (10_state.md R22). -/
theorem test_register_numbers : ∀ r : Reg, regOfNumber r.number = some r := by
  intro r; cases r <;> rfl

/-- R28: a write within RXBUF clears RV, one beyond it does not (R61). -/
theorem test_rxbuf_write :
    statusRV ((validated 0x40#8 frameS2 0).bufWrite .rxbuf 1279 0#8).status = false ∧
      statusRV ((validated 0x40#8 frameS2 0).bufWrite .rxbuf 1280 0#8).status = true := by
  decide

/-- P5: CMD values 0x00 and 0x12 are illegal and leave TRL; a write to OLEN is ignored; register 0x07 reads 0. -/
theorem test_illegal_op :
    after (step (next (.regWrite 0x01 0x12#32) { State.reset with trl := 0x1D0F#16 }))
      (fun t => t.err = 9 ∧ t.trl = 0x1D0F#16) = true ∧
    after (step (next (.regWrite 0x10 5#32) State.reset)) (fun t => t.olen = 0) = true ∧
    after (step (next (.regRead 0x07) State.reset)) (fun t => t.answers = [.reg 0]) = true := by
  decide +kernel

/-- 30_encoding.md R99: the line BUILD is four writes and the operation; BODY writes the bytes and BLEN (P1's encodings). -/
theorem test_script_lines :
    (ScriptLine.buildLine 0x6A#8 0 0 64).expand State.reset =
      [.regWrite 0x08 0x6A#32, .regWrite 0x09 0#32, .regWrite 0x0A 0#32, .regWrite 0x0C 64#32, .regWrite 0x01 0x10#32] ∧
    (ScriptLine.body [0x65#8, 0x00#8]).expand State.reset =
      [.bufWrite .cbuf 0 0x65#8, .bufWrite .cbuf 1 0x00#8, .regWrite 0x0B 2#32] ∧
    (ScriptLine.wrCfg 0x65 false true).expand State.reset = [.regWrite 0x00 0x165#32] := by
  decide

/-- R99: LOOP reads TXBUF[0..OLEN) and writes what it read to RXBUF. -/
theorem test_script_loop :
    ScriptLine.loop.expand { spanned 0 [0xFF#8, 0x53#8] 0 0 with olen := 2 } =
      [.bufRead .txbuf 0, .bufWrite .rxbuf 0 0xFF#8, .bufRead .txbuf 1, .bufWrite .rxbuf 1 0x53#8, .regWrite 0x0D 2#32] := by
  decide

/-- R99: a LOOP issued behind an operation that is still to come reads the OLEN and the bytes of that operation. BUILD of
the example frame (S2) leaves OLEN 9: two transactions a byte, and the write to RLEN. -/
theorem test_script_loop_reached_later :
    after (step (({ staged 0x60#8 [] 0 1 64 with pending := [opEvent .build] } : State).issue .loop)) (fun t =>
      t.olen = 9 ∧ after (step t) (fun u => u.pending.length = 19 ∧
        u.pending.take 4 = [.bufRead .txbuf 0, .bufWrite .rxbuf 0 0xFF#8, .bufRead .txbuf 1, .bufWrite .rxbuf 1 0x53#8] ∧
        u.pending.getLast? = some (.regWrite 0x0D 9#32))) = true := by
  decide +kernel

/-! ### Witnesses: for every statement with hypotheses, a state and operands that meet them -/

theorem test_witness_OpCodeRoundTrip : decodeOp 0x30#8 = .ok .rply := by decide

/-- Bits 31:8 are ignored. -/
theorem test_witness_StepRunsSelectedOperation :
    (next (.regWrite 0x01 0xABCDEF10#32) State.reset).params.legal = true ∧
      decodeOp (BitVec.ofNat 8 (0xABCDEF10#32 : HostWord).toNat) = .ok .build := by decide

/-- The ends of every range of R95, each as the low byte of a written word. -/
theorem test_witness_UnassignedOpOnlySetsErr :
    [0x00, 0x05, 0x0F, 0x12, 0x1F, 0x24, 0x2F, 0x31, 0xFF].all (fun op =>
      after (step (next (.regWrite 0x01 (BitVec.ofNat 32 (256 + op))) State.reset)) (fun t => t.err = 9)) = true ∧
    [0x20, 0x23, 0x30].all (fun op =>
      after (step (next (.regWrite 0x01 (BitVec.ofNat 32 op)) (withParams Params.namedBlock State.reset)))
        (fun t => t.err = 9)) = true := by
  decide +kernel

theorem test_witness_AbsentUnitOperationsAreIllegal :
    (withParams Params.namedBlock State.reset).params.hasQ = false ∧
      (withParams Params.namedBlock State.reset).params.hasR = false := by decide

theorem test_witness_BlockNeverActsAlone : State.reset.params.legal = true ∧ State.reset.pending = [] := by decide

theorem test_witness_IllegalConfigurationIsRefused :
    (withParams { Params.testVectors with rxCap := 8 } State.reset).params.legal = false := by decide

/-- A state of a run with everything in use: a validated reply, queued commands, written buffers, and transactions to
come. -/
def busy : State :=
  { validated 0x45#8 framePdid 12 with
    cap := 64, queue := queued.queue, qcount := 2, cbuf := [(0, 1#8), (1023, 2#8)], txbuf := [(1279, 3#8)],
    pending := [.regWrite 0x01 0x30#32, .regWrite 0x01 0x22#32, .bufWrite .rxbuf 0 0#8, .reset] }

theorem test_witness_invariant : busy.Inv where
  legal := by decide
  buffers := ⟨by intro sp; cases sp <;> decide, by intro sp; cases sp <;> decide⟩
  queueWf := ⟨by decide, by decide, by decide, by decide⟩
  capFits := by decide
  rlenFits := by decide
  viewFits := by decide
  errRange := by decide

/-- `busy` and its list of four transactions meet FiniteScriptRunsToItsEnd, and its first step meets StepKeepsInvariant. -/
theorem test_witness_StepKeepsInvariant : after (step busy) (fun t => t.rkind = 3 ∧ t.pending.length = 3) = true := by
  decide +kernel

/-- The state after a successful DECODE of the example frame (V-D1), with a transaction to come. -/
def viewed : State :=
  { validated 0x60#8 frameS2 0 with rctrl := 0x04#8, raddr := 0x65#8, pending := [.regWrite 0x01 0x11#32] }

/-- RV is 1 in `viewed`, and the view tells the truth. -/
theorem test_witness_StepKeepsViewSound :
    viewed.ViewSound ∧ statusRV viewed.status = true ∧ after (step viewed) (fun t => statusRV t.status) = true := by
  refine ⟨fun _ => ?_, by decide, by decide +kernel⟩
  exact
    { room := by decide +kernel
      mark := by decide +kernel
      som := by decide +kernel
      length := by decide +kernel
      trailer := by decide +kernel
      codeIs := by decide +kernel
      ctrlIs := by decide +kernel
      addrIs := by decide +kernel
      offIs := by decide +kernel
      lenIs := by decide +kernel }

theorem test_witness_InvariantHoldsAtReset : Params.testVectors.legal = true := by decide

/-- All-ones to the registers of R22 that the host may write, by number: the width's bits are kept (unit R present). -/
theorem test_witness_RegWriteStoresLowBits :
    let wr (n : Nat) (p : State → Bool) := after (step (next (.regWrite n 0xFFFFFFFF#32) State.reset)) p
    wr 0x00 (fun t => t.cfg.toNat = 511) = true ∧ wr 0x08 (fun t => t.code.toNat = 255) = true ∧
      wr 0x09 (fun t => t.seq.toNat = 3) = true ∧ wr 0x0A (fun t => t.mode.toNat = 1) = true ∧
      wr 0x0B (fun t => t.blen.toNat = 65535) = true ∧ wr 0x0E (fun t => t.soff.toNat = 65535 ∧ t.slen.toNat = 0) = true ∧
      wr 0x0F (fun t => t.slen.toNat = 65535 ∧ t.soff.toNat = 0) = true ∧
      wr 0x1A (fun t => t.idVendor.toNat = 16777215) = true ∧ wr 0x1B (fun t => t.idModel.toNat = 255) = true ∧
      wr 0x1C (fun t => t.idVersion.toNat = 255) = true ∧ wr 0x1D (fun t => t.idSerial = 0xFFFFFFFF#32) = true ∧
      wr 0x1E (fun t => t.idFw.toNat = 16777215) = true := by
  decide +kernel

/-- CAP at, and one above, its limit. -/
theorem test_witness_CapWriteIsClamped :
    after (step (next (.regWrite 0x0C 1280#32) State.reset)) (fun t => t.cap = 1280) = true ∧
      after (step (next (.regWrite 0x0C 1281#32) State.reset)) (fun t => t.cap = 1280) = true := by decide +kernel

theorem test_witness_RlenWriteIsClampedAndClearsView :
    after (step (next (.regWrite 0x0D 1281#32) (validated 0x40#8 frameS2 0)))
      (fun t => t.rlen = 1280 ∧ statusRV t.status = false) = true := by decide +kernel

/-- A byte of RXBUF at the end of its size, and RLEN. -/
theorem test_witness_ReceiveSideWritesClearView :
    after (step (next (.bufWrite .rxbuf 1279 0#8) (validated 0x40#8 frameS2 0))) (fun t => t.rcode = 0x40#8) = true ∧
      after (step (next (.regWrite 0x0D 9#32) (validated 0x40#8 frameS2 0))) (fun t => t.rcode = 0x40#8) = true := by
  decide +kernel

/-- The read-only registers, the ends of every unmapped range, and the registers of absent units, by number. -/
theorem test_witness_IgnoredRegWritesChangeNothing :
    let same (n : Nat) (s : State) := after (step (next (.regWrite n 0xFFFFFFFF#32) s)) (fun t => t = s)
    [0x02, 0x10, 0x11, 0x12, 0x13, 0x14, 0x15, 0x16, 0x18, 0x19, 0x20, 0x03, 0x07, 0x17, 0x1F, 0x21].all
        (fun n => same n State.reset) = true ∧
      [0x18, 0x19, 0x1A, 0x1B, 0x1C, 0x1D, 0x1E, 0x20].all
        (fun n => same n (withParams Params.namedBlock State.reset)) = true := by
  decide +kernel

/-- A state with a different value in every register, and with ERR 9, RV 1 and QV 1. -/
def numbered : State :=
  { State.reset with
    cfg := 0x165, status := packStatus 9 true true, code := 1, seq := 2, mode := 1, blen := 3, cap := 4, rlen := 5,
    soff := 6, slen := 7, olen := 8, rcode := 9, rctrl := 10, raddr := 11, poff := 12, plen := 13, trl := 14,
    rkind := 3, rerr := 15, idVendor := 16, idModel := 17, idVersion := 18, idSerial := 0xF0000000, idFw := 19,
    qcount := 20 }

/-- Every number of R22 reads its register; STATUS reads ERR + 16 RV + 32 QV (R27), without unit Q with QV 0; CMD, the ends
of every unmapped range and the registers of absent units read 0. -/
theorem test_witness_RegReadReturnsValue :
    let rd (n v : Nat) (s : State) :=
      after (step (next (.regRead n) s)) (fun t => t.answers = [.reg (BitVec.ofNat 32 v)])
    [(0x00, 0x165), (0x01, 0), (0x02, 57), (0x08, 1), (0x09, 2), (0x0A, 1), (0x0B, 3), (0x0C, 4), (0x0D, 5), (0x0E, 6),
        (0x0F, 7), (0x10, 8), (0x11, 9), (0x12, 10), (0x13, 11), (0x14, 12), (0x15, 13), (0x16, 14)].all
        (fun p => rd p.1 p.2 numbered) = true ∧
      [(0x18, 3), (0x19, 15), (0x1A, 16), (0x1B, 17), (0x1C, 18), (0x1D, 0xF0000000), (0x1E, 19), (0x20, 20)].all
        (fun p => rd p.1 p.2 numbered) = true ∧
      [0x03, 0x07, 0x17, 0x1F, 0x21].all (fun n => rd n 0 numbered) = true ∧
      [(0x02, 25), (0x18, 0), (0x1E, 0), (0x20, 0)].all
        (fun p => rd p.1 p.2 (withParams Params.namedBlock numbered)) = true := by
  decide +kernel

/-- The last index of CBUF and the first beyond it. -/
theorem test_witness_BufWriteMovesOneByte :
    after (step (next (.bufWrite .cbuf 1023 7#8) State.reset)) (fun t => t.cbuf = [(1023, 7#8)]) = true ∧
      after (step (next (.bufWrite .cbuf 1024 7#8) State.reset)) (fun t => t.cbuf = []) = true := by decide +kernel

theorem test_witness_BufReadReturnsByte :
    after (step (next (.bufRead .txbuf 1279) busy)) (fun t => t.answers = [.byte 3#8]) = true ∧
      after (step (next (.bufRead .txbuf 1280) busy)) (fun t => t.answers = [.byte 0#8]) = true := by decide +kernel

theorem test_witness_ResetEventResets :
    after (step (next .reset busy)) (fun t => t.rcode = 0 ∧ t.queue = [] ∧ t.rxbuf = []) = true := by decide +kernel

theorem test_witness_FirstOperationsAfterReset :
    Params.testVectors.legal = true ∧ Params.testVectors.hasQ = true ∧ Params.testVectors.hasR = true := by decide

/-- A line at the head of the list, with BUILD succeeding on its operands. -/
theorem test_witness_BuildLineSetsOperandsAndBuilds :
    (next (.line (.buildLine 0x60#8 0 1 9)) State.reset).params.legal = true ∧
      after (exec .build { State.reset with code := 0x60#8, mode := 1, cap := 9 }) (fun t => t.err = 0) = true := by
  decide +kernel

/-- The line LOOP with two bytes to copy, and with OLEN 0: reaching it, then two steps a byte and one for RLEN. -/
theorem test_witness_LoopLineCopiesFrame :
    after (Host.Core.run Sys2Proof.core 6 (next (.line .loop) { spanned 0 [0xFF#8, 0x53#8] 0 0 with olen := 2 }))
      (fun t => t.pending = [] ∧ t.span .rxbuf 0 2 = [0xFF#8, 0x53#8] ∧ t.rlen = 2 ∧
        t.answers = [.byte 0x53#8, .byte 0xFF#8]) = true ∧
    after (Host.Core.run Sys2Proof.core 2 (next (.line .loop) State.reset)) (fun t => t.pending = [] ∧ t.rxbuf = [])
      = true := by
  decide +kernel

/-- The example frame's trailer, with a bit of the span and a bit of the trailer flipped. -/
theorem test_witness_SingleBitFlipFailsTrailerCheck :
    tok 1 [0x53#8, 0x65#8, 0x08#8, 0x00#8, 0x04#8, 0x60#8] [0x60#8, 0x90#8] = true ∧
      tok 1 (flipBit [0x53#8, 0x65#8, 0x08#8, 0x00#8, 0x04#8, 0x60#8] 5 7) [0x60#8, 0x90#8] = false ∧
      tok 0 [] [0x00#8] = true ∧ tok 0 [] (flipBit [0x00#8] 0 0) = false := by decide +kernel

/-- The last byte of TXBUF fits, the one behind it does not. -/
theorem test_witness_Cksum8GenAppendsChecksum :
    after (exec .cksum8Gen (spanned 0 [] 1279 0)) (fun t => t.err = 0) = true ∧
      after (exec .cksum8Gen (spanned 0 [] 1280 0)) (fun t => t.err = 1) = true := by decide +kernel

theorem test_witness_Crc16GenAppendsCrc :
    after (exec .crc16Gen (spanned 0 [] 1278 0)) (fun t => t.err = 0) = true ∧
      after (exec .crc16Gen (spanned 0 [] 1279 0)) (fun t => t.err = 1) = true := by decide +kernel

/-- Span and trailer end exactly at RLEN, and one byte behind it. -/
theorem test_witness_Cksum8ChkComparesChecksum :
    after (exec .cksum8Chk { recv frameS2 with soff := 8, slen := 0 }) (fun t => t.err = 5) = true ∧
      after (exec .cksum8Chk { recv frameS2 with soff := 9, slen := 0 }) (fun t => t.err = 4) = true := by decide +kernel

theorem test_witness_Crc16ChkComparesCrc :
    after (exec .crc16Chk { recv frameS2 with soff := 1, slen := 6 }) (fun t => t.err = 0) = true ∧
      after (exec .crc16Chk { recv frameS2 with soff := 1, slen := 7 }) (fun t => t.err = 4) = true := by decide +kernel

/-- Each of the four operations has a next state; the GEN operations in both cases of their frame. -/
theorem test_witness_TrailerOperationsFrame :
    [Instr.cksum8Chk, .crc16Chk, .cksum8Gen, .crc16Gen].all (fun i =>
      after (exec i State.reset) (fun _ => true) && after (exec i (spanned 0 [] 1280 0)) (fun _ => true)) = true := by
  decide +kernel

/-- MODE 0 and MODE 1, each at its exact capacity. -/
theorem test_witness_BuildWritesFrame :
    after (exec .build (staged 0x60#8 [] 0 0 8)) (fun t => t.err = 0 ∧ t.olen = 8) = true ∧
      after (exec .build (staged 0x60#8 [] 0 1 9)) (fun t => t.err = 0 ∧ t.olen = 9) = true := by decide +kernel

/-- Only the body too large (V-B23); only the capacity short (V-B12); both (V-B24, in each order). -/
theorem test_witness_BuildFailureReportsError :
    after (exec .build { staged 0x80#8 [] 0 1 1280 with blen := 1025 }) (fun t => t.err = 2 ∧ t.olen = 0) = true ∧
      after (exec .build (staged 0x60#8 [] 0 1 8)) (fun t => t.err = 1 ∧ t.olen = 0) = true ∧
      after (exec .build { staged 0x80#8 [] 0 1 10 with blen := 1025 }) (fun t => t.olen = 0) = true ∧
      (Params.testVectors.maxBody < 1025 ∧ 10 < 7 + 1025 + 2) := by decide +kernel

/-- BUILD has a next state when it succeeds and when it fails (BuildFrame, BuildLengthInvariant). -/
theorem test_witness_BuildFrame :
    after (exec .build (staged 0x60#8 [] 0 1 64)) (fun t => t.err = 0) = true ∧
      after (exec .build (staged 0x60#8 [] 0 1 8)) (fun t => t.err ≠ 0) = true := by decide +kernel

/-- The same operands with two capacities that suffice, and with everything else different. -/
theorem test_witness_BuildIsAFunction :
    after (exec .build (staged 0x60#8 [] 0 1 64)) (fun t => t.olen = 9) = true ∧
      after (exec .build { staged 0x60#8 [] 0 1 9 with trl := 7, cfg := 0x165#9, rlen := 3 }) (fun t => t.olen = 9) = true ∧
      cfgAddr 0x065#9 = cfgAddr 0x165#9 ∧ cfgDir 0x065#9 = cfgDir 0x165#9 := by decide +kernel

/-- V-B1 and S2: what BUILD writes stands in RXBUF; with the address check off, and with it on. -/
theorem test_witness_DecodeRecoversBuiltCommand :
    after (exec .build (staged 0x60#8 [] 0 1 64))
      (fun t => t.err = 0 ∧ (recv frameS2).rlen = t.olen ∧ (recv frameS2).span .rxbuf 0 9 = tx t 9 ∧
        cfgAchk (recv frameS2).cfg = false ∧ cfgAddr 0x165#9 = cfgAddr 0x065#9) = true := by
  decide +kernel

/-- The example frame with a bit flipped in each field of R155: MARK, SOM, both bytes of LEN, ADDR, CTRL (not bit 2),
CODE, both bytes of the CRC, and a byte of the body of V-B7's frame, with the errors the rule names. Then the rule's
exception (V-D28): bit 2 of CTRL flipped in a built frame that still decodes. -/
theorem test_witness_DecodeRejectsOneFlippedBit :
    [(0, 7, 3), (1, 0, 3), (3, 0, 4), (4, 0, 4), (2, 0, 5), (5, 0, 5), (5, 7, 5), (6, 0, 5), (7, 0, 5), (8, 7, 5)].all
      (fun p => after (exec .decode (recv (flipBit frameS2 p.1 p.2.1))) (fun t => t.err = p.2.2)) = true ∧
    after (exec .decode (recv (flipBit [0xFF#8, 0x53#8, 0x65#8, 0x0C#8, 0x00#8, 0x00#8, 0x6A#8, 0x65#8, 0x00#8, 0x0A#8,
      0x0A#8, 0x00#8, 0x59#8] 8 3))) (fun t => t.err = 5) = true ∧
    after (exec .build (staged 0x26#8 [] 0 1 9))
      (fun t => t.err = 0 ∧ tx t 9 = [0xFF#8, 0x53#8, 0x65#8, 0x08#8, 0x00#8, 0x04#8, 0x26#8, 0x62#8, 0xB8#8] ∧
        after (exec .decode (recv (flipBit (tx t 9) 5 2))) (fun u =>
          u.err = 0 ∧ u.rcode = 0x26#8 ∧ u.poff = 7 ∧ u.plen = 1 ∧ u.byteAt .rxbuf 7 = 0x62#8) = true) = true := by
  decide +kernel

/-- One state for each outcome: V-D18, V-D20, V-D12, V-D16 and S2. -/
theorem test_witness_DecodeReportsFirstFailedCheck :
    after (exec .decode (recv [])) (fun t => t.err = 3) = true ∧
      after (exec .decode (recv [0xFF#8, 0x53#8])) (fun t => t.err = 4) = true ∧
      after (exec .decode (recv [0xFF#8, 0x53#8, 0x65#8, 0x08#8, 0x00#8, 0x04#8, 0x61#8, 0x60#8, 0x90#8]))
        (fun t => t.err = 5) = true ∧
      after (exec .decode { recv [0xFF#8, 0x53#8, 0x00#8, 0x09#8, 0x00#8, 0x05#8, 0x61#8, 0x00#8, 0xF0#8, 0x51#8] with
        cfg := 0x165#9 }) (fun t => t.err = 6) = true ∧
      after (exec .decode (recv frameS2)) (fun t => t.err = 0) = true := by
  decide +kernel

/-- DECODE has a next state when it succeeds and when it fails (DecodeResultsAndFrame). -/
theorem test_witness_DecodeResultsAndFrame :
    after (exec .decode (recv frameS2)) (fun t => t.err = 0 ∧ t.plen = 0) = true ∧
      after (exec .decode (recv [])) (fun t => t.err ≠ 0) = true := by decide +kernel

/-- Two states that agree on DECODE's inputs and differ elsewhere (the byte at RLEN, DIR, MODE). -/
theorem test_witness_DecodeIsAFunction :
    after (exec .decode (recv frameS2)) (fun t => t.rcode = 0x60#8) = true ∧
      after (exec .decode { recv (frameS2 ++ [0x77#8]) with rlen := 9, cfg := 0x080#9, mode := 1 })
        (fun t => t.rcode = 0x60#8) = true ∧
      cfgAddr 0x080#9 = cfgAddr State.reset.cfg ∧ cfgAchk 0x080#9 = cfgAchk State.reset.cfg := by
  decide +kernel

/-- A body one byte too large; a full queue; room for one more. -/
theorem test_witness_QenqAppendsCommand :
    after (exec .qenq { State.reset with blen := 1025 }) (fun t => t.err = 2) = true ∧
      after (exec .qenq fullQueue) (fun t => t.err = 7) = true ∧
      after (exec .qenq { queued with blen := 1024 }) (fun t => t.err = 0 ∧ t.qcount = 3) = true := by decide +kernel

theorem test_witness_QpeekDeliversHead :
    State.reset.queue = [] ∧ queued.params.hasQ = true ∧ queued.params.maxBody ≤ 65527 ∧
      after (exec .qpeek queued) (fun t => t.blen = 5) = true ∧
      after (exec .qpeek State.reset) (fun t => t.err = 0) = true := by decide +kernel

theorem test_witness_QdeqRemovesHead :
    after (exec .qdeq queued) (fun t => t.qcount = 1) = true ∧
      after (exec .qdeq State.reset) (fun t => t.err = 0 ∧ statusQV t.status = false) = true := by decide +kernel

theorem test_witness_QrstEmptiesQueue : queued.params.hasQ = true := by decide

/-- Each queue operation has a next state, on a full head, an empty queue, and without unit Q. -/
theorem test_witness_QueueOperationsFrame :
    [Instr.qenq, .qpeek, .qdeq, .qrst].all (fun i =>
      after (exec i queued) (fun _ => true) && after (exec i State.reset) (fun _ => true) &&
        after (exec i (withParams Params.namedBlock State.reset)) (fun t => t.err = 9)) = true := by
  decide +kernel

theorem test_witness_PeekIsIdempotent :
    after (exec .qpeek queued) (fun t => after (exec .qpeek t) (fun u => u.code = 0x6A#8 ∧ u.qcount = 2)) = true := by
  decide +kernel

/-- V-Q1's kind: two commands come out in order. -/
theorem test_witness_QueueDrainsInOrder :
    State.drain 2 queued = queued.queue ∧ queued.params.hasQ = true ∧
      ∀ e ∈ queued.queue, e.body.length ≤ queued.params.maxBody := by
  decide +kernel

/-- The six cases of R178: PDID at 12 and 11 bytes, NAK at 1 and 0, ACK, and another code. -/
theorem test_witness_RplyInterpretsReply :
    after (exec .rply (validated 0x45#8 framePdid 12)) (fun t => t.rkind = 3) = true ∧
      after (exec .rply (validated 0x45#8 framePdid 11)) (fun t => t.err = 8) = true ∧
      after (exec .rply (validated 0x41#8 framePdid 1)) (fun t => t.rkind = 2 ∧ t.rerr = 0xA1#8) = true ∧
      after (exec .rply (validated 0x41#8 framePdid 0)) (fun t => t.err = 8) = true ∧
      after (exec .rply (validated 0x40#8 framePdid 0)) (fun t => t.rkind = 1) = true ∧
      after (exec .rply (validated 0x60#8 framePdid 0)) (fun t => t.rkind = 0 ∧ t.err = 0) = true := by
  decide +kernel

/-- V-R8. -/
theorem test_witness_RplyNeedsValidatedReply :
    after (exec .rply { State.reset with rkind := 3, idModel := 7 }) (fun t => t.err = 9 ∧ t.rkind = 0 ∧ t.idModel = 7)
      = true := by decide +kernel

/-- RPLY has a next state when it fails, when it succeeds on another kind, and on an identification. -/
theorem test_witness_RplyFrame :
    after (exec .rply State.reset) (fun t => t.err ≠ 0) = true ∧
      after (exec .rply (validated 0x40#8 frameS2 0)) (fun t => t.rkind ≠ 3) = true ∧
      after (exec .rply (validated 0x45#8 framePdid 12)) (fun t => t.err = 0) = true := by decide +kernel

/-- Every operation has a next state in `busy` (OperationsLeaveOperandsAlone, ResultGroupsAreSeparate,
OnlyQueueWritersChangeQueue). -/
theorem test_witness_every_operation :
    [Instr.cksum8Gen, .cksum8Chk, .crc16Gen, .crc16Chk, .build, .decode, .qenq, .qpeek, .qdeq, .qrst, .rply].all
      (fun i => after (exec i busy) (fun _ => true)) = true := by
  decide +kernel

/-- One state past the end of its space for each clause, at the first index that is too far. -/
theorem test_witness_OutOfSpaceOperandsFault :
    faults (exec .build { State.reset with cap := 1281, blen := 1025 }) (.outsideBuffer .txbuf 1281) = true ∧
      faults (exec .build (withParams { Params.testVectors with txCap := 9 } { staged 0x60#8 [1#8] 0 1 64 with cap := 10 }))
        (.outsideBuffer .txbuf 10) = true ∧
      faults (exec .cksum8Chk { State.reset with rlen := 1281, soff := 1280 }) (.outsideBuffer .rxbuf 1281) = true ∧
      faults (exec .crc16Chk { State.reset with rlen := 1281, soff := 1279 }) (.outsideBuffer .rxbuf 1281) = true ∧
      faults (exec .decode { State.reset with rlen := 1281 }) (.outsideBuffer .rxbuf 1281) = true ∧
      faults (exec .qpeek (withParams { Params.testVectors with maxBody := 4 } queued)) (.outsideBuffer .cbuf 5) = true ∧
      faults (exec .rply { State.reset with status := packStatus 0 true false, poff := 7, plen := 1274 })
        (.outsideBuffer .rxbuf 1281) = true := by
  decide +kernel

end Sys2Proof.Tests
end

section
/-! When the machine has a next state: every operation and every step in a state that meets `State.Inv` (00_scope.md R13,
20_memory.md R62), the idle step (00_scope.md R11), and the refusal of an illegal configuration (00_scope.md R6). -/

namespace Sys2Proof.Machine

/-! ### One step, by the head of the host's list -/

theorem step_idle {s : State} (hl : s.params.legal = true) (hp : s.pending = []) : step s = .next s := by
  simp [step, State.fetch, hl, hp]

theorem step_illegalConfiguration {s : State} (hl : s.params.legal = false) :
    step s = .refused .illegalConfiguration :=
  if_neg (ne_true_of_eq_false hl)

/-- Settles O6: with an empty list there is no transaction to fetch. -/
theorem blockNeverActsAlone : Obligations.BlockNeverActsAlone :=
  fun _ hl hp => step_idle hl hp

/-- Settles O7: the legality of the parameters is the first thing a step tests. -/
theorem illegalConfigurationIsRefused : Obligations.IllegalConfigurationIsRefused :=
  fun _ hl => step_illegalConfiguration hl

/-! ### What the invariant gives the operations -/

/-- The invariant does not speak of the host's list. -/
theorem State.Inv.withPending {s : State} (h : s.Inv) (rest : List Event) : (s.withPending rest).Inv where
  legal := h.legal
  buffers := ⟨h.buffers.sorted, h.buffers.inside⟩
  queueWf := ⟨h.queueWf.bodies, h.queueWf.bound, h.queueWf.absent, h.queueWf.count⟩
  capFits := h.capFits
  rlenFits := h.rlenFits
  viewFits := h.viewFits
  errRange := h.errRange

/-- A validated reply's payload lies inside RXBUF. -/
theorem State.Inv.payload_le_rxCap {s : State} (h : s.Inv) (hv : statusRV s.status = true) :
    s.poff.toNat + s.plen.toNat ≤ s.params.rxCap :=
  le_trans (h.viewFits hv) h.rlenFits

/-- The queue's head fits CBUF. -/
theorem State.Inv.head_le_maxBody {s : State} (h : s.Inv) {e : QEntry} {rest : List QEntry}
    (hq : s.queue = e :: rest) : e.body.length ≤ s.params.maxBody :=
  h.queueWf.bodies e (hq ▸ List.mem_cons_self)

/-! ### Every operation has a next state -/

/-- The test for an absent unit stops nothing by itself. -/
theorem State.whenPresent_has_next (s : State) (i : Instr) {k : Host.Outcome State Fault Refusal}
    (hk : ∃ t, k = .next t) : ∃ t, s.whenPresent i k = .next t := by
  cases hw : i.wellFormed s.params with
  | false => exact ⟨_, State.whenPresent_absent hw k⟩
  | true => rwa [State.whenPresent_of hw]

theorem State.generateTrailer_has_next (s : State) (m : BitVec 1) : ∃ t, s.generateTrailer m = .next t := by
  rcases Nat.lt_or_ge s.params.txCap (s.spanEnd + tlen m) with hlt | hle
  · exact ⟨_, State.generateTrailer_overflow hlt⟩
  · exact ⟨_, State.generateTrailer_fits hle⟩

theorem State.Inv.checkTrailer_has_next {s : State} (h : s.Inv) (m : BitVec 1) :
    ∃ t, s.checkTrailer m = .next t := by
  rcases Nat.lt_or_ge s.rlen.toNat (s.spanEnd + tlen m) with hlt | hle
  · exact ⟨_, State.checkTrailer_short hlt⟩
  · exact ⟨_, State.checkTrailer_fits hle h.rlenFits⟩

theorem State.Inv.execBuild_has_next {s : State} (h : s.Inv) : ∃ t, execBuild s = .next t := by
  by_cases hb : s.Buildable
  · exact ⟨_, execBuild_of_buildable hb h.capFits⟩
  · exact ⟨_, execBuild_of_not hb h.capFits⟩

theorem State.Inv.execDecode_has_next {s : State} (h : s.Inv) : ∃ t, execDecode s = .next t := by
  cases hd : s.decodeError with
  | some e => exact ⟨_, execDecode_of_error hd h.rlenFits⟩
  | none => exact ⟨_, execDecode_of_none hd h.rlenFits⟩

theorem execQenq_has_next (s : State) : ∃ t, execQenq s = .next t := by
  refine s.whenPresent_has_next .qenq ?_
  split_ifs <;> exact ⟨_, rfl⟩

theorem State.Inv.execQpeek_has_next {s : State} (h : s.Inv) : ∃ t, execQpeek s = .next t := by
  refine s.whenPresent_has_next .qpeek ?_
  cases hq : s.queue with
  | nil => exact ⟨_, rfl⟩
  | cons e rest => exact ⟨_, State.touchBelow_of_le (sp := .cbuf) (h.head_le_maxBody hq) _⟩

theorem State.Inv.execQdeq_has_next {s : State} (h : s.Inv) : ∃ t, execQdeq s = .next t := by
  refine s.whenPresent_has_next .qdeq ?_
  cases hq : s.queue with
  | nil => exact ⟨_, rfl⟩
  | cons e rest => exact ⟨_, State.touchBelow_of_le (sp := .cbuf) (h.head_le_maxBody hq) _⟩

theorem execQrst_has_next (s : State) : ∃ t, execQrst s = .next t :=
  s.whenPresent_has_next .qrst ⟨_, rfl⟩

theorem State.interpret_has_next (s : State) : ∃ t, s.interpret = .next t := by
  unfold State.interpret
  split_ifs <;> exact ⟨_, rfl⟩

theorem State.Inv.execRply_has_next {s : State} (h : s.Inv) : ∃ t, execRply s = .next t := by
  refine s.whenPresent_has_next .rply ?_
  split_ifs with hv
  · rw [State.touchBelow_of_le (sp := .rxbuf) (h.payload_le_rxCap hv)]
    exact s.interpret_has_next
  · exact ⟨_, rfl⟩

theorem State.Inv.exec_has_next {s : State} (h : s.Inv) (i : Instr) : ∃ t, exec i s = .next t := by
  cases i with
  | cksum8Gen => exact s.generateTrailer_has_next 0
  | cksum8Chk => exact h.checkTrailer_has_next 0
  | crc16Gen => exact s.generateTrailer_has_next 1
  | crc16Chk => exact h.checkTrailer_has_next 1
  | build => exact h.execBuild_has_next
  | decode => exact h.execDecode_has_next
  | qenq => exact execQenq_has_next s
  | qpeek => exact h.execQpeek_has_next
  | qdeq => exact h.execQdeq_has_next
  | qrst => exact execQrst_has_next s
  | rply => exact h.execRply_has_next

/-! ### Every step has a next state -/

theorem State.Inv.step_has_next {s : State} (h : s.Inv) : ∃ t, step s = .next t := by
  cases hp : s.pending with
  | nil => exact ⟨s, step_idle h.legal hp⟩
  | cons e rest =>
    cases hc : e.command with
    | none => exact ⟨_, step_access h.legal hp hc⟩
    | some op =>
      cases hd : decodeOp op with
      | ok i => exact step_operation h.legal hp hc hd ▸ (h.withPending rest).exec_has_next i
      | error x => exact ⟨_, step_unassigned h.legal hp hc hd⟩

/-- Settles O58: the invariant bounds every operand that an operation's bound check looks at, so each of the eleven
operations has a next state; a step is idle, an access, an unassigned code, or one of those operations. -/
theorem noStopInASoundState : Obligations.NoStopInASoundState :=
  fun _ h => ⟨h.step_has_next, h.exec_has_next⟩

end Sys2Proof.Machine
end

section
/-! The register map under the host's accesses, by number (10_state.md R22 to R36, R44), the write to CMD (R24, R26),
and the registers after reset (R47). -/

namespace Sys2Proof.Machine

/-! ### Numbers and registers -/

/-- The table of numbers, read backwards. -/
theorem regOfNumber_number (r : Reg) : regOfNumber r.number = some r := by cases r <;> rfl

/-- No two registers share a number. -/
theorem Reg.number_inj {r r' : Reg} (h : r.number = r'.number) : r = r' :=
  Option.some.inj (by rw [← regOfNumber_number r, h, regOfNumber_number])

theorem number_of_regOfNumber {n : Nat} {r : Reg} (h : regOfNumber n = some r) : n = r.number := by
  unfold regOfNumber at h
  split at h <;> cases h <;> rfl

/-! ### One step on a register access -/

/-- A write to a register that is present is one step, and only the write to CMD starts an operation. -/
theorem step_writeReg {s : State} {n : Nat} {v : HostWord} {rest : List Event} {r : Reg} (hl : s.params.legal = true)
    (hp : s.pending = .regWrite n v :: rest) (hn : n = r.number) (hcmd : r ≠ .cmd)
    (hhas : s.params.has r.part = true) : step s = .next ((s.withPending rest).writeReg v r) := by
  have hr : regOfNumber n = some r := hn ▸ regOfNumber_number r
  have hne : n ≠ 0x01 := fun h1 => hcmd (Reg.number_inj (r' := .cmd) (hn.symm.trans h1))
  rw [step_access hl hp (Event.command_of_ne hne v)]
  exact congrArg _ (State.regWrite_present (s := s.withPending rest) hr hhas v)

/-- A write that finds no register present, or a read-only one, is one step and changes nothing. -/
theorem step_ignoredWrite {s : State} {n : Nat} {v : HostWord} {rest : List Event} (hl : s.params.legal = true)
    (hp : s.pending = .regWrite n v :: rest)
    (h : ∀ r : Reg, n = r.number → s.params.has r.part = false ∨ r.access = .readOnly) :
    step s = .next (s.withPending rest) := by
  have hne : n ≠ 0x01 := fun hn => by rcases h .cmd hn with hc | hc <;> cases hc
  rw [step_access hl hp (Event.command_of_ne hne v)]
  refine congrArg _ (show (s.withPending rest).regWrite n v = s.withPending rest from ?_)
  by_cases hpresent : ∃ r, regOfNumber n = some r ∧ s.params.has r.part = true
  · obtain ⟨r, hr, hhas⟩ := hpresent
    have hro : r.access = .readOnly := (h r (number_of_regOfNumber hr)).resolve_left (by simp [hhas])
    rw [State.regWrite_present (s := s.withPending rest) hr hhas, State.writeReg_readOnly _ v hro]
  · exact State.regWrite_absent (fun r hr => by simpa using fun hhas => hpresent ⟨r, hr, hhas⟩) v

/-- A read is one step that records the value and changes nothing else. -/
theorem step_regRead {s : State} {n : Nat} {rest : List Event} (hl : s.params.legal = true)
    (hp : s.pending = .regRead n :: rest) :
    step s = .next { s with pending := rest, answers := .reg (s.regRead n) :: s.answers } :=
  step_access hl hp rfl

/-- A write of `v` to CMD selects its operation by bits 7:0. -/
theorem command_cmd (v : HostWord) : (Event.regWrite 0x01 v).command = some (BitVec.ofNat 8 (v.toNat % 256)) := by
  have hop : v.setWidth 8 = BitVec.ofNat 8 (v.toNat % 256) := BitVec.eq_of_toNat_eq (by simp)
  exact hop ▸ rfl

/-- Settles O3: the write to CMD selects its operation by bits 7:0, which the step then runs. -/
theorem stepRunsSelectedOperation : Obligations.StepRunsSelectedOperation :=
  fun _ v _ _ hl hp hd => step_operation hl hp (command_cmd v) hd

/-! ### Host writes -/

/-- Settles O10: each clause is the register's own write, of the value's low bits. -/
theorem regWriteStoresLowBits : Obligations.RegWriteStoresLowBits := by
  intro s n v rest hl hp
  refine ⟨?_, ?_, ?_, ?_, ?_, ?_, ?_, fun hR => ⟨?_, ?_, ?_, ?_, ?_⟩⟩ <;> intro hn
  · exact ⟨_, BitVec.toNat_setWidth 9 v, step_writeReg (r := .cfg) hl hp hn nofun rfl⟩
  · exact ⟨_, BitVec.toNat_setWidth 8 v, step_writeReg (r := .code) hl hp hn nofun rfl⟩
  · exact ⟨_, BitVec.toNat_setWidth 2 v, step_writeReg (r := .seq) hl hp hn nofun rfl⟩
  · exact ⟨_, BitVec.toNat_setWidth 1 v, step_writeReg (r := .mode) hl hp hn nofun rfl⟩
  · exact ⟨_, BitVec.toNat_setWidth 16 v, step_writeReg (r := .blen) hl hp hn nofun rfl⟩
  · exact ⟨_, BitVec.toNat_setWidth 16 v, step_writeReg (r := .soff) hl hp hn nofun rfl⟩
  · exact ⟨_, BitVec.toNat_setWidth 16 v, step_writeReg (r := .slen) hl hp hn nofun rfl⟩
  · exact ⟨_, BitVec.toNat_setWidth 24 v, step_writeReg (r := .idVendor) hl hp hn nofun hR⟩
  · exact ⟨_, BitVec.toNat_setWidth 8 v, step_writeReg (r := .idModel) hl hp hn nofun hR⟩
  · exact ⟨_, BitVec.toNat_setWidth 8 v, step_writeReg (r := .idVersion) hl hp hn nofun hR⟩
  · exact step_writeReg (r := .idSerial) hl hp hn nofun hR
  · exact ⟨_, BitVec.toNat_setWidth 24 v, step_writeReg (r := .idFw) hl hp hn nofun hR⟩

/-- The WARL clamp (10_state.md R34, R35) as a number. -/
theorem toNat_clamp16 (v : HostWord) (limit : Nat) : (clamp16 v limit).toNat = min (v.toNat % 65536) limit := by
  simp only [clamp16, BitVec.toNat_ofNat, BitVec.toNat_setWidth]
  omega

theorem toNat_clamp16_le (v : HostWord) (limit : Nat) : (clamp16 v limit).toNat ≤ limit :=
  toNat_clamp16 v limit ▸ Nat.min_le_right _ _

/-- Settles O11: the write to CAP is its clamp. -/
theorem capWriteIsClamped : Obligations.CapWriteIsClamped :=
  fun _ v _ hl hp => ⟨_, step_writeReg (r := .cap) hl hp rfl nofun rfl, toNat_clamp16 v _, rfl⟩

/-- Settles O12: the write to RLEN is its clamp, followed by clearing RV. -/
theorem rlenWriteIsClampedAndClearsView : Obligations.RlenWriteIsClampedAndClearsView :=
  fun _ v _ hl hp => ⟨_, step_writeReg (r := .rlen) hl hp rfl nofun rfl, toNat_clamp16 v _, statusRV_pack _ _ _,
    statusErr_pack _ _ _, statusQV_pack _ _ _, rfl⟩

/-- A write within RXBUF stores the byte and clears RV (10_state.md R28). -/
theorem step_rxWrite {s : State} {i : Nat} {b : Byte} {rest : List Event} (hl : s.params.legal = true)
    (hp : s.pending = .bufWrite .rxbuf i b :: rest) (hi : i < s.params.rxCap) :
    step s = .next (((s.withPending rest).storeBytes .rxbuf i [b]).setRV false) :=
  (step_access hl hp rfl).trans (congrArg _ (if_pos hi))

/-- Settles O13: both writes end in clearing RV. -/
theorem receiveSideWritesClearView : Obligations.ReceiveSideWritesClearView := by
  intro s i b v rest hl hcase
  rcases hcase with ⟨hp, hi⟩ | hp
  · exact ⟨_, step_rxWrite hl hp hi, statusRV_pack _ _ _, statusErr_pack _ _ _, statusQV_pack _ _ _, rfl, rfl, rfl, rfl,
      rfl⟩
  · exact ⟨_, step_writeReg (r := .rlen) hl hp rfl nofun rfl, statusRV_pack _ _ _, statusErr_pack _ _ _,
      statusQV_pack _ _ _, rfl, rfl, rfl, rfl, rfl⟩

/-- Settles O14: a register with one of these numbers is read-only or belongs to an absent unit. -/
theorem ignoredRegWritesChangeNothing : Obligations.IgnoredRegWritesChangeNothing := by
  intro s n v rest hl hp hn
  refine step_ignoredWrite hl hp fun r hr => ?_
  subst hr
  cases r <;> simp_all [Reg.number, Reg.access, Reg.part, Params.has]

/-! ### Host reads -/

/-- STATUS as a number (10_state.md R27). -/
theorem toNat_packStatus (e : BitVec 4) (rv qv : Bool) :
    (packStatus e rv qv).toNat = e.toNat + (if rv = true then 16 else 0) + (if qv = true then 32 else 0) := by
  revert e rv qv; decide +kernel

/-- The host reads a register of up to 32 bits zero-extended. -/
theorem State.toNat_regRead {s : State} {n w : Nat} {r : Reg} {x : BitVec w} (hn : n = r.number)
    (hhas : s.params.has r.part = true) (hx : s.readReg r = x.setWidth 32) (hw : w ≤ 32 := by decide) :
    (s.regRead n).toNat = x.toNat := by
  rw [State.regRead_present (hn ▸ regOfNumber_number r) hhas, hx, BitVec.toNat_setWidth_of_le hw]

/-- A number with no register present reads 0. -/
theorem State.toNat_regRead_absent {s : State} {n : Nat} (h : ∀ r : Reg, n = r.number → s.params.has r.part = false) :
    (s.regRead n).toNat = 0 :=
  congrArg BitVec.toNat (State.regRead_absent fun r hr => h r (number_of_regOfNumber hr))

theorem State.toNat_visibleStatus (s : State) :
    s.visibleStatus.toNat = s.err + (if statusRV s.status = true then 16 else 0) +
      (if s.params.hasQ = true ∧ statusQV s.status = true then 32 else 0) := by
  simp [State.visibleStatus, toNat_packStatus, State.err, and_comm]

/-- Settles O15: the number's register is present and holds the value, or there is none and the read is 0. -/
theorem regReadReturnsValue : Obligations.RegReadReturnsValue := by
  intro s n rest hl hp
  refine ⟨s.regRead n, step_regRead hl hp, ?_, ?_, ?_, ?_, ?_, ?_, ?_, ?_, ?_, ?_, ?_, ?_, ?_, ?_, ?_, ?_, ?_, ?_,
    fun hR => ⟨?_, ?_, ?_, ?_, ?_, ?_, ?_⟩, fun hR hlo hhi => ?_, fun hQ hn => ?_, fun hQ hn => ?_, fun hn => ?_⟩
  · exact fun hn => State.toNat_regRead (r := .cfg) hn rfl rfl
  · exact fun hn => State.toNat_regRead (r := .cmd) (x := 0#8) hn rfl rfl
  · exact fun hn => (State.toNat_regRead (r := .status) hn rfl rfl).trans s.toNat_visibleStatus
  · exact fun hn => State.toNat_regRead (r := .code) hn rfl rfl
  · exact fun hn => State.toNat_regRead (r := .seq) hn rfl rfl
  · exact fun hn => State.toNat_regRead (r := .mode) hn rfl rfl
  · exact fun hn => State.toNat_regRead (r := .blen) hn rfl rfl
  · exact fun hn => State.toNat_regRead (r := .cap) hn rfl rfl
  · exact fun hn => State.toNat_regRead (r := .rlen) hn rfl rfl
  · exact fun hn => State.toNat_regRead (r := .soff) hn rfl rfl
  · exact fun hn => State.toNat_regRead (r := .slen) hn rfl rfl
  · exact fun hn => State.toNat_regRead (r := .olen) hn rfl rfl
  · exact fun hn => State.toNat_regRead (r := .rcode) hn rfl rfl
  · exact fun hn => State.toNat_regRead (r := .rctrl) hn rfl rfl
  · exact fun hn => State.toNat_regRead (r := .raddr) hn rfl rfl
  · exact fun hn => State.toNat_regRead (r := .poff) hn rfl rfl
  · exact fun hn => State.toNat_regRead (r := .plen) hn rfl rfl
  · exact fun hn => State.toNat_regRead (r := .trl) hn rfl rfl
  · exact fun hn => State.toNat_regRead (r := .rkind) hn hR rfl
  · exact fun hn => State.toNat_regRead (r := .rerr) hn hR rfl
  · exact fun hn => State.toNat_regRead (r := .idVendor) hn hR rfl
  · exact fun hn => State.toNat_regRead (r := .idModel) hn hR rfl
  · exact fun hn => State.toNat_regRead (r := .idVersion) hn hR rfl
  · exact fun hn => State.toNat_regRead (r := .idSerial) hn hR (BitVec.setWidth_eq _).symm
  · exact fun hn => State.toNat_regRead (r := .idFw) hn hR rfl
  · refine State.toNat_regRead_absent fun r hr => ?_
    subst hr
    cases r <;> simp_all [Reg.number, Reg.part, Params.has]
  · exact State.toNat_regRead (r := .qcount) hn hQ rfl
  · refine State.toNat_regRead_absent fun r hr => ?_
    obtain rfl : r = .qcount := Reg.number_inj (hr.symm.trans hn)
    exact hQ
  · refine State.toNat_regRead_absent fun r hr => ?_
    subst hr
    cases r <;> simp [Reg.number] at hn

/-! ### Reset -/

/-- The host reads 0 from every register of a block whose registers are 0. -/
theorem State.readReg_of_registersZero {s : State} (h : s.RegistersZero) (r : Reg) : s.readReg r = 0 := by
  obtain ⟨⟨hcfg, hstatus⟩, hoperands, hresults, hreply, hqcount⟩ := h
  cases r with
  | status =>
    show (packStatus (statusErr s.status) (statusRV s.status) (statusQV s.status && s.params.hasQ)).setWidth 32 = 0
    rw [hstatus, statusErr_zero, statusRV_zero, statusQV_zero, Bool.false_and]
    decide
  | _ => simp_all [State.readReg]

/-- Settles O18: reset lists no byte and leaves every register 0. -/
theorem resetClearsEverything : Obligations.ResetClearsEverything := by
  intro p
  have hregs : (State.resetWith p).RegistersZero :=
    ⟨⟨rfl, rfl⟩, ⟨rfl, rfl, rfl, rfl, rfl, rfl, rfl, rfl⟩, ⟨rfl, rfl, rfl, rfl, rfl, rfl, rfl⟩,
      ⟨rfl, rfl, rfl, rfl, rfl, rfl, rfl⟩, rfl⟩
  have hmem : ∀ sp, (State.resetWith p).mem sp = [] := fun sp => by cases sp <;> rfl
  refine ⟨hregs, State.readReg_of_registersZero hregs, rfl, fun sp i => ?_⟩
  have hlookup : Memory.lookup ((State.resetWith p).mem sp) i = none := by rw [hmem sp]; rfl
  exact ⟨hlookup, by rw [State.byteAt, hlookup]; rfl⟩

end Sys2Proof.Machine
end

section
/-! What each operation writes (10_state.md R22, column "written by operations"; R37): the frame of the eleven
operations in one table, and what each leaves in STATUS. -/

namespace Sys2Proof.Machine

/-- `s` with the registers and buffers that operation `i` may write taken from `t` (10_state.md R22, R37; 20_memory.md
R60). `draws` is the model's own (log entry 4). -/
def State.writtenBy (s : State) (i : Instr) (t : State) : State :=
  match i with
  | .cksum8Gen | .crc16Gen => { s with status := t.status, trl := t.trl, txbuf := t.txbuf }
  | .cksum8Chk | .crc16Chk => { s with status := t.status, trl := t.trl }
  | .build => { s with status := t.status, olen := t.olen, txbuf := t.txbuf, draws := t.draws }
  | .decode =>
    { s with status := t.status, rcode := t.rcode, rctrl := t.rctrl, raddr := t.raddr, poff := t.poff, plen := t.plen }
  | .qenq | .qrst => { s with status := t.status, queue := t.queue, qcount := t.qcount }
  | .qpeek => { s with status := t.status, code := t.code, blen := t.blen, cbuf := t.cbuf }
  | .qdeq =>
    { s with status := t.status, code := t.code, blen := t.blen, cbuf := t.cbuf, queue := t.queue, qcount := t.qcount }
  | .rply =>
    { s with status := t.status, rkind := t.rkind, rerr := t.rerr, idVendor := t.idVendor, idModel := t.idModel,
             idVersion := t.idVersion, idSerial := t.idSerial, idFw := t.idFw }

/-- An operation changes nothing outside its frame. -/
theorem exec_frame {i : Instr} {s t : State} (h : exec i s = .next t) : t = s.writtenBy i t := by
  cases i with
  | cksum8Gen => rcases State.generateTrailer_next h with ⟨-, rfl⟩ | ⟨-, rfl⟩ <;> rfl
  | cksum8Chk => rcases State.checkTrailer_next h with ⟨-, rfl⟩ | ⟨-, rfl⟩ <;> rfl
  | crc16Gen => rcases State.generateTrailer_next h with ⟨-, rfl⟩ | ⟨-, rfl⟩ <;> rfl
  | crc16Chk => rcases State.checkTrailer_next h with ⟨-, rfl⟩ | ⟨-, rfl⟩ <;> rfl
  | build => rcases execBuild_next h with ⟨-, -, rfl⟩ | ⟨-, -, rfl⟩ <;> rfl
  | decode => obtain ⟨-, ⟨e, -, rfl⟩ | ⟨-, rfl⟩⟩ := execDecode_next h <;> rfl
  | qenq => rcases execQenq_next h with ⟨-, rfl⟩ | ⟨-, -, rfl⟩ | ⟨-, -, -, rfl⟩ | ⟨-, -, -, rfl⟩ <;> rfl
  | qpeek => rcases execQpeek_next h with ⟨-, rfl⟩ | ⟨-, -, rfl⟩ | ⟨e, rest, -, -, -, rfl⟩ <;> rfl
  | qdeq => rcases execQdeq_next h with ⟨-, rfl⟩ | ⟨-, -, rfl⟩ | ⟨e, rest, -, -, -, rfl⟩ <;> rfl
  | qrst => rcases execQrst_next h with ⟨-, rfl⟩ | ⟨-, rfl⟩ <;> rfl
  | rply =>
    rcases execRply_next h with ⟨-, rfl⟩ | ⟨-, -, rfl⟩ | ⟨-, -, -, hi⟩
    · rfl
    · rfl
    · rcases State.interpret_next hi with ⟨-, -, rfl⟩ | ⟨-, -, rfl⟩ | ⟨-, -, -, rfl⟩ | ⟨-, -, -, rfl⟩ |
        ⟨-, -, -, rfl⟩ | ⟨-, -, -, rfl⟩ <;> rfl

/-- STATUS as operation `i` may leave it: ERR is one of the codes of 60_exceptions.md R191; RV is kept but by DECODE, QV
but by QPEEK, QDEQ and QRST (10_state.md R27). -/
def State.StatusAfter (s : State) (i : Instr) (t : State) : Prop :=
  ∃ (e : Err) (rv qv : Bool), t.status = packStatus e.code rv qv ∧
    (i ≠ .decode → rv = statusRV s.status) ∧ (i ≠ .qpeek → i ≠ .qdeq → i ≠ .qrst → qv = statusQV s.status)

/-- Ending with an error code alone. -/
theorem State.StatusAfter.of_flags {i : Instr} {s t : State} (e : Err)
    (h : t.status = packStatus e.code (statusRV s.status) (statusQV s.status)) : s.StatusAfter i t :=
  ⟨e, _, _, h, fun _ => rfl, fun _ _ _ => rfl⟩

theorem exec_statusAfter {i : Instr} {s t : State} (h : exec i s = .next t) : s.StatusAfter i t := by
  cases i with
  | cksum8Gen => rcases State.generateTrailer_next h with ⟨-, rfl⟩ | ⟨-, rfl⟩ <;> exact .of_flags _ rfl
  | cksum8Chk => rcases State.checkTrailer_next h with ⟨-, rfl⟩ | ⟨-, rfl⟩ <;> exact .of_flags _ rfl
  | crc16Gen => rcases State.generateTrailer_next h with ⟨-, rfl⟩ | ⟨-, rfl⟩ <;> exact .of_flags _ rfl
  | crc16Chk => rcases State.checkTrailer_next h with ⟨-, rfl⟩ | ⟨-, rfl⟩ <;> exact .of_flags _ rfl
  | build => rcases execBuild_next h with ⟨-, -, rfl⟩ | ⟨-, -, rfl⟩ <;> exact .of_flags _ rfl
  | decode =>
    obtain ⟨-, ⟨e, -, rfl⟩ | ⟨-, rfl⟩⟩ := execDecode_next h
    · exact ⟨e, false, statusQV s.status, by simp [State.decodeFailed], fun hd => absurd rfl hd, fun _ _ _ => rfl⟩
    · exact ⟨.ok, true, statusQV s.status, by simp [State.decoded], fun hd => absurd rfl hd, fun _ _ _ => rfl⟩
  | qenq =>
    rcases execQenq_next h with ⟨-, rfl⟩ | ⟨-, -, rfl⟩ | ⟨-, -, -, rfl⟩ | ⟨-, -, -, rfl⟩ <;> exact .of_flags _ rfl
  | qpeek =>
    rcases execQpeek_next h with ⟨-, rfl⟩ | ⟨-, -, rfl⟩ | ⟨e, rest, -, -, -, rfl⟩
    · exact .of_flags _ rfl
    · exact ⟨.ok, statusRV s.status, false, by simp, fun _ => rfl, fun hq => absurd rfl hq⟩
    · exact ⟨.ok, statusRV s.status, true, by simp, fun _ => rfl, fun hq => absurd rfl hq⟩
  | qdeq =>
    rcases execQdeq_next h with ⟨-, rfl⟩ | ⟨-, -, rfl⟩ | ⟨e, rest, -, -, -, rfl⟩
    · exact .of_flags _ rfl
    · exact ⟨.ok, statusRV s.status, false, by simp, fun _ => rfl, fun _ hq => absurd rfl hq⟩
    · exact ⟨.ok, statusRV s.status, true, by simp, fun _ => rfl, fun _ hq => absurd rfl hq⟩
  | qrst =>
    rcases execQrst_next h with ⟨-, rfl⟩ | ⟨-, rfl⟩
    · exact .of_flags _ rfl
    · exact ⟨.ok, statusRV s.status, false, by simp, fun _ => rfl, fun _ _ hq => absurd rfl hq⟩
  | rply =>
    rcases execRply_next h with ⟨-, rfl⟩ | ⟨-, -, rfl⟩ | ⟨-, -, -, hi⟩
    · exact .of_flags _ rfl
    · exact .of_flags _ rfl
    · rcases State.interpret_next hi with ⟨-, -, rfl⟩ | ⟨-, -, rfl⟩ | ⟨-, -, -, rfl⟩ | ⟨-, -, -, rfl⟩ |
        ⟨-, -, -, rfl⟩ | ⟨-, -, -, rfl⟩ <;> exact .of_flags _ rfl

theorem exec_statusErr_le {i : Instr} {s t : State} (h : exec i s = .next t) : (statusErr t.status).toNat ≤ 9 := by
  obtain ⟨e, rv, qv, hst, -, -⟩ := exec_statusAfter h
  rw [hst, statusErr_pack]
  exact e.code_le

theorem exec_statusRV {i : Instr} {s t : State} (h : exec i s = .next t) (hi : i ≠ .decode) :
    statusRV t.status = statusRV s.status := by
  obtain ⟨e, rv, qv, hst, hrv, -⟩ := exec_statusAfter h
  rw [hst, statusRV_pack, hrv hi]

theorem exec_statusQV {i : Instr} {s t : State} (h : exec i s = .next t) (hp : i ≠ .qpeek) (hd : i ≠ .qdeq)
    (hr : i ≠ .qrst) : statusQV t.status = statusQV s.status := by
  obtain ⟨e, rv, qv, hst, -, hqv⟩ := exec_statusAfter h
  rw [hst, statusQV_pack, hqv hp hd hr]

/-! ### No operation writes an operand -/

/-- What no operation writes, the same in `t` as in `s`: the parameters, CFG, the operands but for the command, RXBUF,
the host's lists and the number of resets. -/
structure State.SameOperands (s t : State) : Prop where
  params : t.params = s.params
  cfg : t.cfg = s.cfg
  seq : t.seq = s.seq
  mode : t.mode = s.mode
  cap : t.cap = s.cap
  rlen : t.rlen = s.rlen
  soff : t.soff = s.soff
  slen : t.slen = s.slen
  rxbuf : t.rxbuf = s.rxbuf
  pending : t.pending = s.pending
  answers : t.answers = s.answers
  resets : t.resets = s.resets

theorem exec_sameOperands {i : Instr} {s t : State} (h : exec i s = .next t) : s.SameOperands t := by
  rw [exec_frame h]
  cases i <;> constructor <;> rfl

theorem State.SameOperands.rxBytes {s t : State} (h : s.SameOperands t) : s.SameBytes t .rxbuf :=
  State.byteAt_congr h.rxbuf h.resets

/-- Only the two queue reads write the command's registers and CBUF. -/
theorem exec_command {i : Instr} {s t : State} (h : exec i s = .next t) (hp : i ≠ .qpeek) (hd : i ≠ .qdeq) :
    t.code = s.code ∧ t.blen = s.blen ∧ t.cbuf = s.cbuf := by
  rw [exec_frame h]
  cases i with
  | qpeek => exact absurd rfl hp
  | qdeq => exact absurd rfl hd
  | _ => exact ⟨rfl, rfl, rfl⟩

/-- Settles O50: what an operation does not write is read off its frame. -/
theorem operationsLeaveOperandsAlone : Obligations.OperationsLeaveOperandsAlone := by
  intro i s t h
  have ho := exec_sameOperands h
  refine ⟨ho.params, ho.cfg, ho.seq, ho.mode, ho.cap, ho.rlen, ho.soff, ho.slen, ho.rxbuf, ho.rxBytes, ho.pending,
    ho.answers, fun hp hd => ?_⟩
  obtain ⟨hcode, hblen, hcbuf⟩ := exec_command h hp hd
  exact ⟨hcode, hblen, State.byteAt_congr hcbuf ho.resets⟩

/-! ### Each group of results has its own writers -/

theorem exec_olen {i : Instr} {s t : State} (h : exec i s = .next t) (hi : i ≠ .build) : t.olen = s.olen := by
  rw [exec_frame h]
  cases i with
  | build => exact absurd rfl hi
  | _ => rfl

/-- The DECODE group and RV, the same in `t` as in `s`; a field that an update does not name agrees by `rfl`. -/
structure State.SameView (s t : State) : Prop where
  rcode : t.rcode = s.rcode := by rfl
  rctrl : t.rctrl = s.rctrl := by rfl
  raddr : t.raddr = s.raddr := by rfl
  poff : t.poff = s.poff := by rfl
  plen : t.plen = s.plen := by rfl
  rv : statusRV t.status = statusRV s.status := by rfl

theorem exec_sameView {i : Instr} {s t : State} (h : exec i s = .next t) (hi : i ≠ .decode) : s.SameView t := by
  have hrv := exec_statusRV h hi
  rw [exec_frame h]
  cases i with
  | decode => exact absurd rfl hi
  | _ => exact { rv := hrv }

theorem exec_trl {i : Instr} {s t : State} (h : exec i s = .next t) (h1 : i ≠ .cksum8Gen) (h2 : i ≠ .cksum8Chk)
    (h3 : i ≠ .crc16Gen) (h4 : i ≠ .crc16Chk) : t.trl = s.trl := by
  rw [exec_frame h]
  cases i with
  | cksum8Gen => exact absurd rfl h1
  | cksum8Chk => exact absurd rfl h2
  | crc16Gen => exact absurd rfl h3
  | crc16Chk => exact absurd rfl h4
  | _ => rfl

theorem exec_reply {i : Instr} {s t : State} (h : exec i s = .next t) (hi : i ≠ .rply) :
    t.rkind = s.rkind ∧ t.rerr = s.rerr ∧ t.idVendor = s.idVendor ∧ t.idModel = s.idModel ∧
      t.idVersion = s.idVersion ∧ t.idSerial = s.idSerial ∧ t.idFw = s.idFw := by
  rw [exec_frame h]
  cases i with
  | rply => exact absurd rfl hi
  | _ => exact ⟨rfl, rfl, rfl, rfl, rfl, rfl, rfl⟩

/-- Settles O51: each group's registers stand in the frames of that group's operations only. -/
theorem resultGroupsAreSeparate : Obligations.ResultGroupsAreSeparate := by
  intro i s t h
  refine ⟨exec_olen h, fun hi => ?_, exec_trl h, exec_reply h, exec_statusQV h⟩
  have hv := exec_sameView h hi
  exact ⟨hv.rcode, hv.rctrl, hv.raddr, hv.poff, hv.plen, hv.rv⟩

end Sys2Proof.Machine
end

section
/-! STATUS.RV tells the truth along a run (10_state.md R27, R28; 42_decode.md R151, R152): DECODE alone sets it, to
describe the frame it has just validated, and whatever may touch that frame clears it. -/

namespace Sys2Proof.Machine

/-- What `State.ViewSound` speaks of, the same in `t` as in `s`; a field that an update does not name agrees by `rfl`. -/
structure State.SameReceiveSide (s t : State) : Prop where
  params : t.params = s.params := by rfl
  rlen : t.rlen = s.rlen := by rfl
  rxBytes : s.SameBytes t .rxbuf := by exact fun _ => rfl
  view : s.SameView t := by exact {}

/-- Validity of the view depends on the receive side alone. -/
theorem State.ViewDescribes.congr {s t : State} (hd : s.ViewDescribes) (h : s.SameReceiveSide t) :
    t.ViewDescribes := by
  have hb := h.rxBytes
  have hctrl : t.rxCtrl = s.rxCtrl := hb 5
  have htlen : t.rxTlen = s.rxTlen := congrArg (fun c => tlen (ctrlMode c)) hctrl
  have hlen : t.rxLen = s.rxLen := congrArg₂ littleEndian16 (hb 3) (hb 4)
  have hspan : t.rxSpan = s.rxSpan := by
    simp only [State.rxSpan, h.rlen, htlen]
    exact State.span_congr fun _ _ => hb _
  have htrailer : t.rxTrailer = s.rxTrailer := by
    simp only [State.rxTrailer, h.rlen, htlen]
    exact State.span_congr fun _ _ => hb _
  exact
    { room := by rw [htlen, h.rlen]; exact hd.room
      mark := by rw [h.params, hb 0]; exact hd.mark
      som := by rw [hb 1]; exact hd.som
      length := by rw [hlen, h.rlen]; exact hd.length
      trailer := by rw [hctrl, hspan, htrailer]; exact hd.trailer
      codeIs := by rw [h.view.rcode, hb 6]; exact hd.codeIs
      ctrlIs := by rw [h.view.rctrl, hb 5]; exact hd.ctrlIs
      addrIs := by rw [h.view.raddr, hb 2]; exact hd.addrIs
      offIs := by rw [h.view.poff]; exact hd.offIs
      lenIs := by rw [h.view.plen, h.rlen, htlen]; exact hd.lenIs }

theorem State.ViewSound.congr {s t : State} (hv : s.ViewSound) (h : s.SameReceiveSide t) : t.ViewSound :=
  fun ht => (hv (h.view.rv ▸ ht)).congr h

/-- Without a valid view there is nothing to describe. -/
theorem State.viewSound_of_not_valid {s : State} (h : statusRV s.status = false) : s.ViewSound :=
  fun hv => absurd hv (by simp [h])

/-- The view of a frame lies within it. -/
theorem State.ViewDescribes.view_le_rlen {s : State} (h : s.ViewDescribes) :
    s.poff.toNat + s.plen.toNat ≤ s.rlen.toNat := by
  have hroom := h.room
  have hoff : s.poff.toNat = 7 := congrArg BitVec.toNat h.offIs
  rw [hoff, h.lenIs]
  omega

/-! ### What sets RV -/

/-- A DECODE that finds no error leaves results that describe the frame it checked. -/
theorem State.decoded_viewDescribes {s : State} (h : s.decodeError = none) : s.decoded.ViewDescribes := by
  obtain ⟨hmark, hsom, hlen, hroom, htrailer, -⟩ := s.decodeError_none_iff.mp h
  have hlt := s.rlen.isLt
  exact
    { room := hroom
      mark := hmark
      som := hsom
      length := hlen
      trailer := htrailer
      codeIs := rfl
      ctrlIs := rfl
      addrIs := rfl
      offIs := rfl
      lenIs := (BitVec.toNat_ofNat _ _).trans (Nat.mod_eq_of_lt (by omega)) }

/-- Whatever DECODE found in RXBUF before, what it leaves is sound. -/
theorem execDecode_viewSound {s t : State} (h : execDecode s = .next t) : t.ViewSound := by
  obtain ⟨-, ⟨e, -, rfl⟩ | ⟨hnone, rfl⟩⟩ := execDecode_next h
  · exact State.viewSound_of_not_valid (by simp [State.decodeFailed])
  · exact fun _ => State.decoded_viewDescribes hnone

/-! ### What keeps or clears RV -/

theorem exec_sameReceiveSide {i : Instr} {s t : State} (h : exec i s = .next t) (hi : i ≠ .decode) :
    s.SameReceiveSide t :=
  have ho := exec_sameOperands h
  ⟨ho.params, ho.rlen, ho.rxBytes, exec_sameView h hi⟩

theorem exec_viewSound {i : Instr} {s t : State} (hv : s.ViewSound) (h : exec i s = .next t) : t.ViewSound := by
  by_cases hi : i = .decode
  · subst hi
    exact execDecode_viewSound h
  · exact hv.congr (exec_sameReceiveSide h hi)

theorem State.setErr_sameReceiveSide (s : State) (e : Err) : s.SameReceiveSide (s.setErr e) :=
  { view := { rv := by simp } }

theorem State.withPending_sameReceiveSide (s : State) (rest : List Event) : s.SameReceiveSide (s.withPending rest) :=
  {}

/-- A write to a register clears RV when it is RLEN (10_state.md R28); any other leaves the receive side alone. -/
theorem State.writeReg_receiveSide (s : State) (v : HostWord) (r : Reg) :
    statusRV (s.writeReg v r).status = false ∨ s.SameReceiveSide (s.writeReg v r) := by
  cases r with
  | rlen => exact .inl (by simp [State.writeReg])
  | _ => exact .inr {}

/-- A host access clears RV or leaves the receive side alone. -/
theorem State.access_receiveSide (s : State) (e : Event) :
    statusRV (s.access e).status = false ∨ s.SameReceiveSide (s.access e) := by
  have hself : s.SameReceiveSide s := {}
  cases e with
  | regRead n => exact .inr {}
  | bufRead sp i => exact .inr {}
  | line l => exact .inr (s.withPending_sameReceiveSide _)
  | reset => exact .inl statusRV_zero
  | regWrite n v =>
    simp only [State.access, State.regWrite]
    split
    · split_ifs
      · exact s.writeReg_receiveSide v _
      · exact .inr hself
    · exact .inr hself
  | bufWrite sp i b =>
    simp only [State.access, State.bufWrite]
    split_ifs with hi
    · cases sp with
      | rxbuf => exact .inl (by simp)
      | cbuf => exact .inr {}
      | txbuf => exact .inr {}
    · exact .inr hself

theorem State.access_viewSound {s : State} (hv : s.ViewSound) (e : Event) : (s.access e).ViewSound := by
  rcases s.access_receiveSide e with hclear | hsame
  · exact State.viewSound_of_not_valid hclear
  · exact hv.congr hsame

/-- Settles O56: an access clears RV or keeps what the view describes, DECODE describes the frame it has checked, and
every other operation keeps RV, the view and the received bytes. -/
theorem stepKeepsViewSound : Obligations.StepKeepsViewSound := by
  intro s t hv h
  obtain ⟨-, ⟨-, rfl⟩ | ⟨e, rest, -, hstep⟩⟩ := step_next h
  · exact hv
  · have hrest := hv.congr (s.withPending_sameReceiveSide rest)
    rcases hstep with ⟨-, rfl⟩ | ⟨op, i, -, -, hexec⟩ | ⟨op, x, -, -, rfl⟩
    · exact State.access_viewSound hrest e
    · exact exec_viewSound hrest hexec
    · exact hrest.congr (State.setErr_sameReceiveSide _ _)

/-- Settles O57: RV is 0 after reset. -/
theorem viewSoundAtReset : Obligations.ViewSoundAtReset :=
  fun _ => ⟨State.viewSound_of_not_valid statusRV_zero, statusRV_zero⟩

end Sys2Proof.Machine
end

section
/-! The invariant of a run (20_memory.md R62): it holds after reset, and every access and every operation keeps it. -/

namespace Sys2Proof.Machine

/-! ### The parts of the invariant, and what they depend on -/

/-- The buffers' form depends on the written bytes and the sizes. As in the next lemmas of this name, a field that an update
does not name agrees by `rfl`. -/
theorem State.BuffersWf.congr {s t : State} (h : s.BuffersWf) (hp : t.params = s.params := by rfl)
    (hm : t.mem = s.mem := by rfl) : t.BuffersWf where
  sorted := hm ▸ h.sorted
  inside sp := by rw [hm, State.size_congr hp]; exact h.inside sp

theorem State.BuffersWf.storeBytes {s : State} (h : s.BuffersWf) {sp : Space} {i : Nat} {bs : List Byte}
    (hb : i + bs.length ≤ s.size sp) : (s.storeBytes sp i bs).BuffersWf where
  sorted := State.storeBytes_wf h.sorted sp i bs
  inside sp' := by
    rw [State.size_congr (State.storeBytes_params s sp i bs)]
    exact State.storeBytes_within h.inside hb sp'

theorem State.QueueWf.congr {s t : State} (h : s.QueueWf) (hp : t.params = s.params := by rfl)
    (hq : t.queue = s.queue := by rfl) (hc : t.qcount = s.qcount := by rfl) : t.QueueWf where
  bodies := by rw [hp, hq]; exact h.bodies
  bound := by rw [hp, hq]; exact h.bound
  absent := by rw [hp, hq]; exact h.absent
  count := by rw [hq, hc]; exact h.count

/-- QCOUNT is the queue's length where 16 bits hold it. -/
theorem toNat_countWord {q : List QEntry} (h : q.length < 65536) : (countWord q).toNat = q.length := by
  rw [countWord, if_pos h, BitVec.toNat_ofNat, Nat.mod_eq_of_lt h]

/-- A queue that meets the bounds of a block with unit Q. -/
theorem State.setQueue_queueWf {s : State} {q : List QEntry} (hQ : s.params.hasQ = true)
    (hbodies : ∀ e ∈ q, e.body.length ≤ s.params.maxBody) (hbound : q.length ≤ s.params.qCap) :
    (s.setQueue q).QueueWf where
  bodies := hbodies
  bound := hbound
  absent hno := absurd hQ (by simpa using hno)
  count := toNat_countWord

/-- `State.Inv` speaks of no other field than these. -/
theorem State.Inv.congr {s t : State} (h : s.Inv) (hp : t.params = s.params := by rfl) (hm : t.mem = s.mem := by rfl)
    (hq : t.queue = s.queue := by rfl) (hqc : t.qcount = s.qcount := by rfl) (hcap : t.cap = s.cap := by rfl)
    (hrlen : t.rlen = s.rlen := by rfl) (hpoff : t.poff = s.poff := by rfl) (hplen : t.plen = s.plen := by rfl)
    (hst : t.status = s.status := by rfl) : t.Inv where
  legal := hp ▸ h.legal
  buffers := h.buffers.congr hp hm
  queueWf := h.queueWf.congr hp hq hqc
  capFits := by rw [hcap, hp]; exact h.capFits
  rlenFits := by rw [hrlen, hp]; exact h.rlenFits
  viewFits := by rw [hst, hpoff, hplen, hrlen]; exact h.viewFits
  errRange := hst ▸ h.errRange

/-! ### Reset -/

/-- The block after reset, of which nothing is written and every register is 0. -/
theorem State.resetWith_inv {p : Params} (hl : p.legal = true) : (State.resetWith p).Inv where
  legal := hl
  buffers := ⟨State.resetWith_wf p, fun sp c hc => by cases sp <;> cases hc⟩
  queueWf := ⟨fun _ he => absurd he List.not_mem_nil, Nat.zero_le _, fun _ => rfl, fun _ => rfl⟩
  capFits := Nat.zero_le _
  rlenFits := Nat.zero_le _
  viewFits hv := absurd (statusRV_zero.symm.trans hv) Bool.false_ne_true
  errRange := Nat.zero_le _

/-- Settles O55, the configuration of `State.reset` being legal. -/
theorem invariantHoldsAtReset : Obligations.InvariantHoldsAtReset :=
  ⟨fun _ hl => State.resetWith_inv hl, State.resetWith_inv (by decide)⟩

/-! ### Accesses -/

theorem State.Inv.setErr {s : State} (h : s.Inv) (e : Err) : (s.setErr e).Inv where
  legal := h.legal
  buffers := h.buffers.congr
  queueWf := h.queueWf.congr
  capFits := h.capFits
  rlenFits := h.rlenFits
  viewFits hv := h.viewFits (by simpa using hv)
  errRange := by simpa using e.code_le

theorem State.Inv.clearRV {s : State} (h : s.Inv) : (s.setRV false).Inv where
  legal := h.legal
  buffers := h.buffers.congr
  queueWf := h.queueWf.congr
  capFits := h.capFits
  rlenFits := h.rlenFits
  viewFits hv := absurd hv (by simp)
  errRange := by simpa using h.errRange

theorem State.Inv.storeByte {s : State} (h : s.Inv) {sp : Space} {i : Nat} (hi : i < s.size sp) (b : Byte) :
    (s.storeBytes sp i [b]).Inv where
  legal := by simpa using h.legal
  buffers := h.buffers.storeBytes hi
  queueWf := h.queueWf.congr (by simp) (by simp) (by simp)
  capFits := by simpa using h.capFits
  rlenFits := by simpa using h.rlenFits
  viewFits := by simpa using h.viewFits
  errRange := by simpa using h.errRange

/-- A register write keeps the invariant: CAP and RLEN by their clamps, RLEN also by clearing RV; it speaks
of no other register the host can write. -/
theorem State.Inv.writeReg {s : State} (h : s.Inv) (v : HostWord) (r : Reg) : (s.writeReg v r).Inv := by
  cases r with
  | cap =>
    exact
      { legal := h.legal
        buffers := h.buffers.congr
        queueWf := h.queueWf.congr
        capFits := toNat_clamp16_le v _
        rlenFits := h.rlenFits
        viewFits := h.viewFits
        errRange := h.errRange }
  | rlen =>
    exact
      { legal := h.legal
        buffers := h.buffers.congr
        queueWf := h.queueWf.congr
        capFits := h.capFits
        rlenFits := toNat_clamp16_le v _
        viewFits := fun hv => absurd hv (by simp [State.writeReg])
        errRange := by simpa [State.writeReg] using h.errRange }
  | _ => exact h.congr

theorem State.Inv.access {s : State} (h : s.Inv) (e : Event) : (s.access e).Inv := by
  cases e with
  | regRead n => exact h.congr
  | bufRead sp i => exact h.congr
  | line l => exact h.withPending _
  | reset => exact (State.resetWith_inv h.legal).congr
  | regWrite n v =>
    simp only [State.access, State.regWrite]
    split
    · split_ifs
      · exact h.writeReg v _
      · exact h
    · exact h
  | bufWrite sp i b =>
    simp only [State.access, State.bufWrite]
    split_ifs with hi
    · have hstore := h.storeByte hi b
      cases sp with
      | rxbuf => exact hstore.clearRV
      | cbuf => exact hstore
      | txbuf => exact hstore
    · exact h

/-! ### Operations -/

theorem State.generateTrailer_buffersWf {s t : State} {m : BitVec 1} (hb : s.BuffersWf)
    (h : s.generateTrailer m = .next t) : t.BuffersWf := by
  rcases State.generateTrailer_next h with ⟨-, rfl⟩ | ⟨hfit, rfl⟩
  · exact hb.congr
  · have hstore := hb.storeBytes (sp := .txbuf) (i := s.spanEnd)
      (bs := tbytes m (s.span .txbuf s.soff.toNat s.slen.toNat)) (by simpa using hfit)
    exact hstore.congr

theorem execBuild_buffersWf {s t : State} (hb : s.BuffersWf) (h : execBuild s = .next t) : t.BuffersWf := by
  rcases execBuild_next h with ⟨-, hfit, rfl⟩ | ⟨-, hfit, rfl⟩
  · have hstore := hb.storeBytes (sp := .txbuf) (i := 0) (bs := s.frame) (by simpa using hfit)
    exact hstore.congr
  · have hstore := hb.storeBytes (sp := .txbuf) (i := 0) (bs := s.drawnBytes) (by simpa using hfit)
    exact hstore.congr

theorem State.deliver_buffersWf {s : State} (hb : s.BuffersWf) {e : QEntry} (he : e.body.length ≤ s.params.maxBody) :
    (s.deliver e).BuffersWf := by
  have hstore := hb.storeBytes (sp := .cbuf) (i := 0) (bs := e.body) (by simpa using he)
  exact hstore.congr

/-- An operation that ends stores within the bounds it checked. -/
theorem exec_buffersWf {i : Instr} {s t : State} (hb : s.BuffersWf) (h : exec i s = .next t) : t.BuffersWf := by
  cases i with
  | cksum8Gen => exact State.generateTrailer_buffersWf hb h
  | crc16Gen => exact State.generateTrailer_buffersWf hb h
  | build => exact execBuild_buffersWf hb h
  | qpeek =>
    rcases execQpeek_next h with ⟨-, rfl⟩ | ⟨-, -, rfl⟩ | ⟨e, rest, -, -, he, rfl⟩
    · exact hb.congr
    · exact hb.congr
    · exact (State.deliver_buffersWf hb he).congr
  | qdeq =>
    rcases execQdeq_next h with ⟨-, rfl⟩ | ⟨-, -, rfl⟩ | ⟨e, rest, -, -, he, rfl⟩
    · exact hb.congr
    · exact hb.congr
    · exact (State.deliver_buffersWf hb he).congr
  | _ =>
    rw [exec_frame h]
    exact hb.congr

/-- QENQ appends a body within MAX_BODY to a queue below its bound (43_companions.md R172 (d)). -/
theorem execQenq_queueWf {s t : State} (hq : s.QueueWf) (h : execQenq s = .next t) : t.QueueWf := by
  rcases execQenq_next h with ⟨-, rfl⟩ | ⟨-, -, rfl⟩ | ⟨-, -, -, rfl⟩ | ⟨hQ, hbody, hfull, rfl⟩
  · exact hq.congr
  · exact hq.congr
  · exact hq.congr
  · have hbodies : ∀ e ∈ s.queue ++ [s.command], e.body.length ≤ s.params.maxBody := by
      intro e he
      rcases List.mem_append.mp he with hold | hnew
      · exact hq.bodies e hold
      · rw [List.mem_singleton.mp hnew]
        exact s.length_body.symm ▸ hbody
    have hbound : (s.queue ++ [s.command]).length ≤ s.params.qCap := by
      have hle := hq.bound
      simp only [List.length_append, List.length_singleton]
      omega
    exact (State.setQueue_queueWf hQ hbodies hbound).congr

/-- QDEQ leaves the queue's tail. -/
theorem execQdeq_queueWf {s t : State} (hq : s.QueueWf) (h : execQdeq s = .next t) : t.QueueWf := by
  rcases execQdeq_next h with ⟨-, rfl⟩ | ⟨-, -, rfl⟩ | ⟨e, rest, hQ, hqueue, -, rfl⟩
  · exact hq.congr
  · exact hq.congr
  · obtain ⟨hbodies, hbound, -, -⟩ := hq
    rw [hqueue] at hbodies hbound
    exact (State.setQueue_queueWf hQ (fun a ha => hbodies a (List.mem_cons_of_mem e ha))
      (Nat.le_of_succ_le hbound)).congr

theorem execQrst_queueWf {s t : State} (hq : s.QueueWf) (h : execQrst s = .next t) : t.QueueWf := by
  rcases execQrst_next h with ⟨-, rfl⟩ | ⟨hQ, rfl⟩
  · exact hq.congr
  · exact (State.setQueue_queueWf hQ (fun _ he => absurd he List.not_mem_nil) (Nat.zero_le _)).congr

theorem exec_queueWf {i : Instr} {s t : State} (hq : s.QueueWf) (h : exec i s = .next t) : t.QueueWf := by
  cases i with
  | qenq => exact execQenq_queueWf hq h
  | qdeq => exact execQdeq_queueWf hq h
  | qrst => exact execQrst_queueWf hq h
  | _ =>
    rw [exec_frame h]
    exact hq.congr

/-- The view stays within RLEN: DECODE's describes the frame, and no other operation touches it. -/
theorem exec_viewFits {i : Instr} {s t : State}
    (hv : statusRV s.status = true → s.poff.toNat + s.plen.toNat ≤ s.rlen.toNat) (h : exec i s = .next t)
    (ht : statusRV t.status = true) : t.poff.toNat + t.plen.toNat ≤ t.rlen.toNat := by
  by_cases hi : i = .decode
  · subst hi
    exact (execDecode_viewSound h ht).view_le_rlen
  · obtain ⟨-, hrlen, -, hview⟩ := exec_sameReceiveSide h hi
    rw [hview.poff, hview.plen, hrlen]
    exact hv (hview.rv ▸ ht)

theorem State.Inv.of_exec {s t : State} {i : Instr} (h : s.Inv) (ht : exec i s = .next t) : t.Inv :=
  have ho := exec_sameOperands ht
  { legal := ho.params ▸ h.legal
    buffers := exec_buffersWf h.buffers ht
    queueWf := exec_queueWf h.queueWf ht
    capFits := by rw [ho.cap, ho.params]; exact h.capFits
    rlenFits := by rw [ho.rlen, ho.params]; exact h.rlenFits
    viewFits := exec_viewFits h.viewFits ht
    errRange := exec_statusErr_le ht }

/-- Settles O54: an access, an operation and an unassigned code each keep the invariant, which does not speak of the
host's list. -/
theorem stepKeepsInvariant : Obligations.StepKeepsInvariant := by
  intro s t hs h
  obtain ⟨-, ⟨-, rfl⟩ | ⟨e, rest, -, hstep⟩⟩ := step_next h
  · exact hs
  · have hrest := hs.withPending rest
    rcases hstep with ⟨-, rfl⟩ | ⟨op, i, -, -, hexec⟩ | ⟨op, x, -, -, rfl⟩
    · exact hrest.access e
    · exact hrest.of_exec hexec
    · exact hrest.setErr _

end Sys2Proof.Machine
end

section
/-! The host's access to the buffers (20_memory.md R61): one byte within the size, nothing at or beyond it. -/

namespace Sys2Proof.Machine

/-! ### What a host write leaves -/

/-- Within the size a write stores its byte, and on RXBUF it clears RV (10_state.md R28). -/
theorem State.bufWrite_of_lt {s : State} {sp : Space} {i : Nat} (h : i < s.size sp) (b : Byte) :
    s.bufWrite sp i b =
      if sp = .rxbuf then (s.storeBytes sp i [b]).setRV false else s.storeBytes sp i [b] := by
  refine (if_pos h).trans ?_
  cases sp <;> rfl

/-- At or beyond the size a write does nothing. -/
theorem State.bufWrite_of_le {s : State} {sp : Space} {i : Nat} (h : s.size sp ≤ i) (b : Byte) :
    s.bufWrite sp i b = s :=
  if_neg (Nat.not_lt.mpr h)

/-- The bytes after a write are those of the store alone: RV is no byte. -/
theorem State.byteAt_bufWrite {s : State} {sp : Space} {i : Nat} (h : i < s.size sp) (b : Byte) (sp' : Space)
    (j : Nat) : (s.bufWrite sp i b).byteAt sp' j = if sp' = sp ∧ j = i then b else s.byteAt sp' j := by
  have hstore : (s.bufWrite sp i b).byteAt sp' j = (s.storeBytes sp i [b]).byteAt sp' j := by
    rw [State.bufWrite_of_lt h]
    split_ifs <;> rfl
  rw [hstore]
  split_ifs with hc
  · obtain ⟨rfl, rfl⟩ := hc
    rw [State.byteAt_storeBytes, if_pos ⟨le_rfl, by simp⟩]
    simp
  · refine State.byteAt_storeBytes_of_not s sp sp' i [b] j fun ⟨hs, hlo, hhi⟩ => hc ⟨hs, ?_⟩
    rw [List.length_singleton] at hhi
    omega

/-- STATUS after a write: only RV can change. -/
theorem State.bufWrite_status {s : State} {sp : Space} {i : Nat} (h : i < s.size sp) (b : Byte) :
    (s.bufWrite sp i b).status =
      packStatus (statusErr s.status) (if sp = .rxbuf then false else statusRV s.status) (statusQV s.status) := by
  rw [State.bufWrite_of_lt h]
  split_ifs
  · simp
  · simp [pack_fields]

/-- A write changes nothing outside STATUS and the three buffers. -/
theorem State.bufWrite_frame (s : State) (sp : Space) (i : Nat) (b : Byte) :
    s.bufWrite sp i b =
      { s with status := (s.bufWrite sp i b).status, cbuf := (s.bufWrite sp i b).cbuf,
               txbuf := (s.bufWrite sp i b).txbuf, rxbuf := (s.bufWrite sp i b).rxbuf } := by
  rcases Nat.lt_or_ge i (s.size sp) with hlt | hle
  · rw [State.bufWrite_of_lt hlt]
    cases sp <;> rfl
  · rw [State.bufWrite_of_le hle]

/-! ### One step on a buffer access -/

theorem step_bufWrite {s : State} {sp : Space} {i : Nat} {b : Byte} {rest : List Event} (hl : s.params.legal = true)
    (hp : s.pending = .bufWrite sp i b :: rest) : step s = .next ((s.withPending rest).bufWrite sp i b) :=
  step_access hl hp rfl

/-- Settles O16: beyond the size the write is ignored; within it, what it leaves is read off the bytes, STATUS and the
frame of the write. -/
theorem bufWriteMovesOneByte : Obligations.BufWriteMovesOneByte := by
  intro s sp i b rest hl hp
  refine ⟨fun hle => ?_, fun hlt => ⟨(s.withPending rest).bufWrite sp i b, step_bufWrite hl hp, ?_⟩⟩
  · exact (step_bufWrite hl hp).trans (congrArg _ (State.bufWrite_of_le (s := s.withPending rest) hle b))
  · have hbytes := State.byteAt_bufWrite (s := s.withPending rest) hlt b
    have hstatus := State.bufWrite_status (s := s.withPending rest) hlt b
    exact ⟨(hbytes sp i).trans (if_pos ⟨rfl, rfl⟩),
      fun j hj => (hbytes sp j).trans (if_neg fun ⟨_, hji⟩ => hj (by omega)),
      fun sp' hsp j => (hbytes sp' j).trans (if_neg fun ⟨hs, _⟩ => hsp hs),
      (congrArg statusErr hstatus).trans (statusErr_pack _ _ _),
      (congrArg statusQV hstatus).trans (statusQV_pack _ _ _),
      (congrArg statusRV hstatus).trans (statusRV_pack _ _ _),
      State.bufWrite_frame _ sp i b⟩

/-- Settles O17: a read only records its byte. -/
theorem bufReadReturnsByte : Obligations.BufReadReturnsByte :=
  fun _ _ _ _ hl hp => step_access hl hp rfl

end Sys2Proof.Machine
end

section
/-! The model's own fault (log entry 6): the bound of 20_memory.md R62 that each operation tests, and the fault where the
operands pass it. No state of a run meets these premises (`stepKeepsInvariant`, `noStopInASoundState`). -/

namespace Sys2Proof.Machine

theorem execBuild_fault_of_not_buildable {s : State} (h : ¬ s.Buildable) (hc : s.params.txCap < s.cap.toNat) :
    execBuild s = .fault (.outsideBuffer .txbuf s.cap.toNat) := by
  unfold execBuild
  rw [if_pos (not_not.mp fun hn => h (s.buildable_iff.mpr hn))]
  exact State.touchBelow_of_lt (sp := .txbuf) hc _

theorem execBuild_fault_of_buildable {s : State} (h : s.Buildable) (hc : s.params.txCap < s.frameLength) :
    execBuild s = .fault (.outsideBuffer .txbuf s.frameLength) := by
  unfold execBuild
  rw [if_neg (s.buildable_iff.mp h)]
  exact State.touchBelow_of_lt (sp := .txbuf) hc _

theorem State.checkTrailer_fault {s : State} {m : BitVec 1} (h : s.spanEnd + tlen m ≤ s.rlen.toNat)
    (hc : s.params.rxCap < s.spanEnd + tlen m) :
    s.checkTrailer m = .fault (.outsideBuffer .rxbuf (s.spanEnd + tlen m)) := by
  unfold State.checkTrailer
  rw [if_neg (Nat.not_lt.mpr h)]
  exact State.touchBelow_of_lt (sp := .rxbuf) hc _

theorem execDecode_fault {s : State} (hc : s.params.rxCap < s.rlen.toNat) :
    execDecode s = .fault (.outsideBuffer .rxbuf s.rlen.toNat) :=
  State.touchBelow_of_lt (sp := .rxbuf) hc _

theorem execQpeek_fault {s : State} {e : QEntry} {rest : List QEntry} (hQ : s.params.hasQ = true)
    (hq : s.queue = e :: rest) (hc : s.params.maxBody < e.body.length) :
    execQpeek s = .fault (.outsideBuffer .cbuf e.body.length) := by
  unfold execQpeek
  rw [State.whenPresent_of (i := .qpeek) hQ, hq]
  exact State.touchBelow_of_lt (sp := .cbuf) hc _

theorem execQdeq_fault {s : State} {e : QEntry} {rest : List QEntry} (hQ : s.params.hasQ = true)
    (hq : s.queue = e :: rest) (hc : s.params.maxBody < e.body.length) :
    execQdeq s = .fault (.outsideBuffer .cbuf e.body.length) := by
  unfold execQdeq
  rw [State.whenPresent_of (i := .qdeq) hQ, hq]
  exact State.touchBelow_of_lt (sp := .cbuf) hc _

theorem execRply_fault {s : State} (hR : s.params.hasR = true) (hv : statusRV s.status = true)
    (hc : s.params.rxCap < s.poff.toNat + s.plen.toNat) :
    execRply s = .fault (.outsideBuffer .rxbuf (s.poff.toNat + s.plen.toNat)) := by
  unfold execRply
  rw [State.whenPresent_of (i := .rply) hR, if_pos hv]
  exact State.touchBelow_of_lt (sp := .rxbuf) hc _

/-- Settles O59: each clause is its operation's bound check; BUILD's two are told apart by whether there is a frame to
build. -/
theorem outOfSpaceOperandsFault : Obligations.OutOfSpaceOperandsFault := by
  rintro s _ rfl
  refine ⟨fun hc herr => ?_, fun hbody hcap hc => execBuild_fault_of_buildable ⟨hbody, hcap⟩ hc,
    State.checkTrailer_fault (m := 0), State.checkTrailer_fault (m := 1), execDecode_fault,
    fun hQ _ _ hq hc => ⟨execQpeek_fault hQ hq hc, execQdeq_fault hQ hq hc⟩, execRply_fault⟩
  have hnot : ¬ s.Buildable := fun ⟨hbody, hcap⟩ => herr.elim hbody.not_gt hcap.not_gt
  exact execBuild_fault_of_not_buildable hnot hc

end Sys2Proof.Machine
end

section
/-! Operation codes (30_encoding.md R94), the codes that select no operation of the configured block (R95,
60_exceptions.md R197), and the frame of the queue operations (R96, format Q). -/

namespace Sys2Proof.Machine

/-! ### Decoding and encoding -/

theorem decodeOp_encode (i : Instr) : decodeOp (encode i) = .ok i :=
  match i with
  | .cksum8Gen => Laws.CodeRoundTrip.cksum8Gen
  | .cksum8Chk => Laws.CodeRoundTrip.cksum8Chk
  | .crc16Gen => Laws.CodeRoundTrip.crc16Gen
  | .crc16Chk => Laws.CodeRoundTrip.crc16Chk
  | .build => Laws.CodeRoundTrip.build
  | .decode => Laws.CodeRoundTrip.decode
  | .qenq => Laws.CodeRoundTrip.qenq
  | .qpeek => Laws.CodeRoundTrip.qpeek
  | .qdeq => Laws.CodeRoundTrip.qdeq
  | .qrst => Laws.CodeRoundTrip.qrst
  | .rply => Laws.CodeRoundTrip.rply

/-- No byte but an operation's code decodes to it. -/
theorem encode_of_decodeOp {op : Byte} {i : Instr} (h : decodeOp op = .ok i) : encode i = op := by
  unfold decodeOp at h
  split at h <;> cases h <;> exact BitVec.eq_of_toNat_eq (Eq.symm ‹_›)

/-- Settles O1: the eleven codes are those the encoder gives, and the four other bytes fall to the decoder's last arm. -/
theorem opCodesSelectOperations : Obligations.OpCodesSelectOperations :=
  ⟨decodeOp_encode .cksum8Gen, decodeOp_encode .cksum8Chk, decodeOp_encode .crc16Gen, decodeOp_encode .crc16Chk,
    decodeOp_encode .build, decodeOp_encode .decode, decodeOp_encode .qenq, decodeOp_encode .qpeek,
    decodeOp_encode .qdeq, decodeOp_encode .qrst, decodeOp_encode .rply, rfl, rfl, rfl, rfl⟩

/-- Settles O2: both tables have the same eleven rows. -/
theorem opCodeRoundTrip : Obligations.OpCodeRoundTrip :=
  ⟨decodeOp_encode, fun _ _ => encode_of_decodeOp⟩

/-! ### Illegal operations -/

/-- An operation whose unit is absent is an illegal operation; the other operations belong to every block. -/
theorem exec_absentUnit {i : Instr} {s : State} (h : i.wellFormed s.params = false) :
    exec i s = .next (s.setErr .illegalOp) := by
  cases i with
  | qenq => exact State.whenPresent_absent (i := .qenq) h _
  | qpeek => exact State.whenPresent_absent (i := .qpeek) h _
  | qdeq => exact State.whenPresent_absent (i := .qdeq) h _
  | qrst => exact State.whenPresent_absent (i := .qrst) h _
  | rply => exact State.whenPresent_absent (i := .rply) h _
  | _ => cases h

/-- Taking an error changes neither flag. -/
theorem State.setErr_sameFlags (s : State) (e : Err) : s.SameFlags (s.setErr e) :=
  ⟨statusRV_pack _ _ _, statusQV_pack _ _ _⟩

/-- Settles O5: each of the five operations belongs to a unit, which is absent. -/
theorem absentUnitOperationsAreIllegal : Obligations.AbsentUnitOperationsAreIllegal := by
  intro s i h
  have hw : i.wellFormed s.params = false := by
    rcases h with ⟨hQ, rfl | rfl | rfl | rfl⟩ | ⟨hR, rfl⟩
    · exact hQ
    · exact hQ
    · exact hQ
    · exact hQ
    · exact hR
  exact ⟨_, exec_absentUnit hw, s.err_setErr _, s.setErr_sameFlags _, rfl⟩

/-- A write to CMD of a code that selects no operation of the configured block is an illegal operation. -/
theorem step_illegalOp {s : State} {e : Event} {rest : List Event} {op : Byte} (hl : s.params.legal = true)
    (hp : s.pending = e :: rest) (hc : e.command = some op) (h : ∀ i, encode i = op → i.wellFormed s.params = false) :
    step s = .next ((s.withPending rest).setErr .illegalOp) := by
  cases hd : decodeOp op with
  | error x => exact step_unassigned hl hp hc hd
  | ok i =>
    rw [step_operation hl hp hc hd]
    exact exec_absentUnit (s := s.withPending rest) (h i (encode_of_decodeOp hd))

/-- Settles O4: an operation's code stands in R95's list only under its absent unit. -/
theorem unassignedOpOnlySetsErr : Obligations.UnassignedOpOnlySetsErr := by
  rintro s v rest _ hl hp rfl hop
  refine ⟨_, step_illegalOp hl hp (command_cmd v) fun i hi => ?_, State.err_setErr _ _,
    (s.withPending rest).setErr_sameFlags _, rfl⟩
  have hcode : v.toNat % 256 = (encode i).toNat := by
    rw [hi, BitVec.toNat_ofNat, Nat.mod_mod]
  rw [hcode] at hop
  cases i with
  | qenq | qpeek | qdeq | qrst | rply =>
    simpa [encode, Instr.wellFormed, Instr.part, Params.has] using hop
  | _ => simp [encode] at hop

/-! ### The queue operations -/

/-- What the two queue reads can do: touch STATUS alone, without unit Q and on an empty queue, or deliver the head into
CBUF. -/
theorem exec_queueRead {i : Instr} {s t : State} (hi : i = .qpeek ∨ i = .qdeq) (h : exec i s = .next t) :
    ((s.params.hasQ = false ∨ s.queue = []) ∧ t = { s with status := t.status }) ∨
      ∃ e rest, s.params.hasQ = true ∧ s.queue = e :: rest ∧ ∀ k, t.byteAt .cbuf k = (s.deliver e).byteAt .cbuf k := by
  rcases hi with rfl | rfl
  · rcases execQpeek_next h with ⟨hQ, rfl⟩ | ⟨-, hq, rfl⟩ | ⟨e, rest, hQ, hq, -, rfl⟩
    · exact .inl ⟨.inl hQ, rfl⟩
    · exact .inl ⟨.inr hq, rfl⟩
    · exact .inr ⟨e, rest, hQ, hq, fun _ => rfl⟩
  · rcases execQdeq_next h with ⟨hQ, rfl⟩ | ⟨-, hq, rfl⟩ | ⟨e, rest, hQ, hq, -, rfl⟩
    · exact .inl ⟨.inl hQ, rfl⟩
    · exact .inl ⟨.inr hq, rfl⟩
    · exact .inr ⟨e, rest, hQ, hq, fun _ => rfl⟩

/-- A queue read leaves CBUF behind the head's body. -/
theorem exec_queueRead_behind {i : Instr} {s t : State} {e : QEntry} {rest : List QEntry}
    (hi : i = .qpeek ∨ i = .qdeq) (h : exec i s = .next t) (hQ : s.params.hasQ = true) (hq : s.queue = e :: rest) :
    s.SameOutside t .cbuf 0 e.body.length := by
  intro k hk
  rcases exec_queueRead hi h with ⟨habsent | hempty, -⟩ | ⟨e', rest', -, hq', hbytes⟩
  · exact absurd (hQ.symm.trans habsent) nofun
  · exact absurd (hq.symm.trans hempty) nofun
  · obtain ⟨rfl, -⟩ := List.cons.inj (hq'.symm.trans hq)
    exact (hbytes k).trans (s.deliver_behind e' (by omega))

/-- A queue read that finds no entry changes STATUS alone. -/
theorem exec_queueRead_nothing {i : Instr} {s t : State} (hi : i = .qpeek ∨ i = .qdeq) (h : exec i s = .next t)
    (hno : s.params.hasQ = false ∨ s.queue = []) : t = { s with status := t.status } := by
  rcases exec_queueRead hi h with ⟨-, ht⟩ | ⟨e, rest, hQ, hq, -⟩
  · exact ht
  · simp [hQ, hq] at hno

/-- Settles O44: the fields are those of each operation's frame, RV is DECODE's alone, and what the two reads leave of
CBUF is `exec_queueRead`'s. -/
theorem queueOperationsFrame : Obligations.QueueOperationsFrame := by
  refine fun s t i h => ⟨?_, ?_, ?_, ?_, fun hi hQ e rest hq => exec_queueRead_behind hi h hQ hq,
    fun hi hno => exec_queueRead_nothing hi h hno⟩
  · rintro rfl
    exact ⟨⟨exec_statusRV h nofun, exec_statusQV h nofun nofun nofun⟩, exec_frame h⟩
  · rintro rfl
    exact ⟨exec_statusRV h nofun, exec_frame h⟩
  · rintro rfl
    exact ⟨exec_statusRV h nofun, exec_frame h⟩
  · rintro rfl
    exact ⟨exec_statusRV h nofun, exec_frame h⟩

end Sys2Proof.Machine
end

section
/-! Script lines as runs of steps (30_encoding.md R98, R99): a list of transactions that starts no operation, and from it
the lines BUILD and LOOP. -/

namespace Sys2Proof.Machine

/-! ### Runs of host accesses -/

/-- An event that starts no operation and brings no others with it: neither a write to CMD nor a script line. -/
def Event.IsAccess (e : Event) : Prop := e.command = none ∧ ∀ l, e ≠ .line l

theorem Event.isAccess_bufRead (sp : Space) (i : Nat) : (Event.bufRead sp i).IsAccess := ⟨rfl, nofun⟩

theorem Event.isAccess_bufWrite (sp : Space) (i : Nat) (b : Byte) : (Event.bufWrite sp i b).IsAccess := ⟨rfl, nofun⟩

theorem Event.isAccess_writeEvent {r : Reg} (h : r ≠ .cmd) (v : HostWord) : (writeEvent r v).IsAccess :=
  ⟨Event.command_of_ne (fun hn => h (Reg.number_inj (r' := .cmd) hn)) v, nofun⟩

theorem State.writeReg_withPending (s : State) (q : List Event) (v : HostWord) (r : Reg) :
    (s.withPending q).writeReg v r = (s.writeReg v r).withPending q := by
  cases r <;> rfl

theorem State.regWrite_withPending (s : State) (q : List Event) (n : Nat) (v : HostWord) :
    (s.withPending q).regWrite n v = (s.regWrite n v).withPending q := by
  by_cases hpresent : ∃ r, regOfNumber n = some r ∧ s.params.has r.part = true
  · obtain ⟨r, hr, hhas⟩ := hpresent
    rw [State.regWrite_present hr hhas, State.regWrite_present (s := s.withPending q) hr hhas]
    exact s.writeReg_withPending q v r
  · have habsent : ∀ r, regOfNumber n = some r → s.params.has r.part = false :=
      fun r hr => by simpa using fun hhas => hpresent ⟨r, hr, hhas⟩
    rw [State.regWrite_absent habsent, State.regWrite_absent (s := s.withPending q) habsent]

theorem State.bufWrite_withPending (s : State) (q : List Event) (sp : Space) (i : Nat) (b : Byte) :
    (s.withPending q).bufWrite sp i b = (s.bufWrite sp i b).withPending q := by
  rcases Nat.lt_or_ge i (s.size sp) with hlt | hle
  · rw [State.bufWrite_of_lt hlt, State.bufWrite_of_lt (s := s.withPending q) hlt]
    cases sp <;> rfl
  · rw [State.bufWrite_of_le hle, State.bufWrite_of_le (s := s.withPending q) hle]

/-- An access does not depend on what the host still has to do, and leaves it. -/
theorem State.access_withPending (s : State) (q : List Event) {e : Event} (he : e.IsAccess) :
    (s.withPending q).access e = (s.access e).withPending q := by
  cases e with
  | regRead n => rfl
  | regWrite n v => exact s.regWrite_withPending q n v
  | bufRead sp i => rfl
  | bufWrite sp i b => exact s.bufWrite_withPending q sp i b
  | reset => rfl
  | line l => exact absurd rfl (he.2 l)

/-- Accesses at the head of the host's list take one step each, in their order. -/
theorem core_run_accesses {es : List Event} (hes : ∀ e ∈ es, e.IsAccess) {s : State} (hl : s.params.legal = true)
    (rest : List Event) (k : Nat) :
    Host.Core.run Sys2Proof.core (es.length + k) (s.withPending (es ++ rest)) =
      Host.Core.run Sys2Proof.core k ((es.foldl State.access s).withPending rest) := by
  induction es generalizing s with
  | nil => rw [List.length_nil, Nat.zero_add]; rfl
  | cons e es ih =>
    obtain ⟨he, hes⟩ := List.forall_mem_cons.mp hes
    have hstep : step (s.withPending (e :: (es ++ rest))) = .next ((s.access e).withPending (es ++ rest)) :=
      (step_access (s := s.withPending (e :: (es ++ rest))) hl rfl he.1).trans
        (congrArg _ (s.access_withPending (es ++ rest) he))
    rw [List.length_cons, Nat.add_right_comm, List.cons_append, core_run_succ hstep,
      ih hes (by rwa [State.access_params])]
    rfl

/-- What a line expands to does not depend on what the host still has to do. -/
theorem ScriptLine.expand_withPending (l : ScriptLine) (s : State) (q : List Event) :
    l.expand (s.withPending q) = l.expand s := by
  cases l <;> rfl

/-- One step reaches a line; the accesses it begins with take one step each. -/
theorem core_run_line {s : State} {l : ScriptLine} {es later rest : List Event} (hl : s.params.legal = true)
    (hp : s.pending = .line l :: rest) (hexp : l.expand s = es ++ later) (hes : ∀ e ∈ es, e.IsAccess) (k : Nat) :
    Host.Core.run Sys2Proof.core (es.length + k + 1) s =
      Host.Core.run Sys2Proof.core k ((es.foldl State.access s).withPending (later ++ rest)) := by
  have hstep : step s = .next (s.withPending (es ++ (later ++ rest))) := by
    rw [step_access hl hp rfl, State.access_line, l.expand_withPending, hexp, List.append_assoc]
    rfl
  rw [core_run_succ hstep, core_run_accesses hes hl]

theorem core_run_one (s : State) : Host.Core.run Sys2Proof.core 1 s = step s := by
  have hc : Sys2Proof.core.step s = step s := rfl
  simp only [Host.Core.run, hc]
  cases step s <;> rfl

/-! ### The line BUILD -/

/-- `WR` of a register that is present. -/
theorem State.access_writeEvent {s : State} {r : Reg} (h : s.params.has r.part = true) (v : HostWord) :
    s.access (writeEvent r v) = s.writeReg v r :=
  State.regWrite_present (regOfNumber_number r) h v

/-- `OP <mnemonic>` at the head of the host's list runs the operation. -/
theorem step_opEvent {s : State} {i : Instr} {rest : List Event} (hl : s.params.legal = true)
    (hp : s.pending = opEvent i :: rest) : step s = exec i (s.withPending rest) := by
  have hcmd : (opEvent i).command = some (encode i) := by cases i <;> rfl
  exact step_operation hl hp hcmd (decodeOp_encode i)

/-- The clamp (10_state.md R34, R35) of a value that has the register's width. -/
theorem clamp16_setWidth (n : BitVec 16) (limit : Nat) :
    clamp16 (n.setWidth 32) limit = BitVec.ofNat 16 (min n.toNat limit) := by
  simp [clamp16]

/-- The register writes of the line BUILD (30_encoding.md R99). -/
def buildWrites (c : Byte) (q : BitVec 2) (m : BitVec 1) (n : BitVec 16) : List Event :=
  [writeEvent .code (c.setWidth 32), writeEvent .seq (q.setWidth 32), writeEvent .mode (m.setWidth 32),
    writeEvent .cap (n.setWidth 32)]

theorem buildWrites_isAccess (c : Byte) (q : BitVec 2) (m : BitVec 1) (n : BitVec 16) :
    ∀ e ∈ buildWrites c q m n, e.IsAccess := by
  simp [buildWrites, Event.isAccess_writeEvent]

theorem foldl_buildWrites (s : State) (c : Byte) (q : BitVec 2) (m : BitVec 1) (n : BitVec 16) :
    (buildWrites c q m n).foldl State.access s =
      { s with code := c, seq := q, mode := m, cap := BitVec.ofNat 16 (min n.toNat s.params.txCap) } := by
  simp only [buildWrites, List.foldl_cons, List.foldl_nil]
  rw [State.access_writeEvent (r := .code) rfl, State.access_writeEvent (r := .seq) rfl,
    State.access_writeEvent (r := .mode) rfl, State.access_writeEvent (r := .cap) rfl]
  simp [State.writeReg, clamp16_setWidth]

/-- Settles O9: the line's four register writes leave the operands, and its last transaction is the operation. -/
theorem buildLineSetsOperandsAndBuilds : Obligations.BuildLineSetsOperandsAndBuilds := by
  intro s c q m n rest hl hp
  rw [show 6 = (buildWrites c q m n).length + 1 + 1 from rfl,
    core_run_line (later := [opEvent .build]) hl hp rfl (buildWrites_isAccess c q m n), foldl_buildWrites, core_run_one]
  exact step_opEvent hl rfl

/-! ### The line LOOP -/

theorem State.bufWrite_err (s : State) (sp : Space) (i : Nat) (b : Byte) :
    statusErr (s.bufWrite sp i b).status = statusErr s.status := by
  rcases Nat.lt_or_ge i (s.size sp) with hlt | hle
  · rw [State.bufWrite_status hlt, statusErr_pack]
  · rw [State.bufWrite_of_le hle]

theorem State.bufWrite_qv (s : State) (sp : Space) (i : Nat) (b : Byte) :
    statusQV (s.bufWrite sp i b).status = statusQV s.status := by
  rcases Nat.lt_or_ge i (s.size sp) with hlt | hle
  · rw [State.bufWrite_status hlt, statusQV_pack]
  · rw [State.bufWrite_of_le hle]

/-- A write to RXBUF changes nothing but STATUS and RXBUF. -/
theorem State.bufWrite_rxbuf_frame (s : State) (i : Nat) (b : Byte) :
    s.bufWrite .rxbuf i b =
      { s with status := (s.bufWrite .rxbuf i b).status, rxbuf := (s.bufWrite .rxbuf i b).rxbuf } := by
  rcases Nat.lt_or_ge i (s.size .rxbuf) with hlt | hle
  · rw [State.bufWrite_of_lt hlt]
    rfl
  · rw [State.bufWrite_of_le hle]

/-- A byte of RXBUF after a write to it, within its size or not. -/
theorem State.byteAt_bufWrite_rxbuf (s : State) (i : Nat) (b : Byte) (j : Nat) :
    (s.bufWrite .rxbuf i b).byteAt .rxbuf j = if j = i ∧ j < s.params.rxCap then b else s.byteAt .rxbuf j := by
  rcases Nat.lt_or_ge i (s.size .rxbuf) with hlt | hle
  · have hlt' : i < s.params.rxCap := hlt
    rw [State.byteAt_bufWrite hlt]
    exact if_congr ⟨fun ⟨_, hj⟩ => ⟨hj, hj ▸ hlt'⟩, fun ⟨hj, _⟩ => ⟨rfl, hj⟩⟩ rfl rfl
  · have hle' : s.params.rxCap ≤ i := hle
    rw [State.bufWrite_of_le hle, if_neg (by omega)]

/-- The reads and writes of the line LOOP for the first `n` bytes, reached in `s`. -/
def loopCopies (s : State) (n : Nat) : List Event :=
  (List.range n).flatMap fun i => [.bufRead .txbuf i, .bufWrite .rxbuf i (s.bufRead .txbuf i)]

/-- `s` once they are made. -/
def State.looped (s : State) (n : Nat) : State := (loopCopies s n).foldl State.access s

theorem loopCopies_isAccess (s : State) (n : Nat) : ∀ e ∈ loopCopies s n, e.IsAccess := by
  intro e he
  obtain ⟨i, -, hi⟩ := List.mem_flatMap.mp he
  rcases List.mem_pair.mp hi with rfl | rfl
  · exact Event.isAccess_bufRead .txbuf i
  · exact Event.isAccess_bufWrite .rxbuf i _

theorem length_loopCopies (s : State) (n : Nat) : (loopCopies s n).length = 2 * n := by
  simp [loopCopies, List.length_flatMap, Nat.mul_comm]

/-- One more byte is one read and one write more. -/
theorem State.looped_succ (s : State) (n : Nat) :
    s.looped (n + 1) =
      ((s.looped n).record (.byte ((s.looped n).bufRead .txbuf n))).bufWrite .rxbuf n (s.bufRead .txbuf n) := by
  simp only [State.looped, loopCopies, List.range_succ, List.flatMap_append, List.foldl_append]
  rfl

/-- What LOOP has recorded, and what it has left alone: TXBUF among it, so that each read finds the byte that stood there
when the line was reached. -/
theorem State.looped_frame (s : State) (n : Nat) :
    s.looped n =
      { s with status := (s.looped n).status, rxbuf := (s.looped n).rxbuf,
               answers := ((List.range n).map fun i => Answer.byte (s.bufRead .txbuf i)).reverse ++ s.answers } := by
  induction n with
  | zero => rfl
  | succ n ih =>
    have hread : (s.looped n).bufRead .txbuf n = s.bufRead .txbuf n := by rw [ih]; rfl
    rw [State.looped_succ, State.bufWrite_rxbuf_frame, hread, ih, List.range_succ]
    simp [State.record]

theorem State.looped_params (s : State) (n : Nat) : (s.looped n).params = s.params := by rw [State.looped_frame]

theorem State.looped_err (s : State) (n : Nat) : statusErr (s.looped n).status = statusErr s.status := by
  induction n with
  | zero => rfl
  | succ n ih => rw [State.looped_succ, State.bufWrite_err]; exact ih

theorem State.looped_qv (s : State) (n : Nat) : statusQV (s.looped n).status = statusQV s.status := by
  induction n with
  | zero => rfl
  | succ n ih => rw [State.looped_succ, State.bufWrite_qv]; exact ih

/-- RXBUF holds the bytes copied so far, as far as it reaches. -/
theorem State.looped_rxbuf (s : State) (n j : Nat) :
    (s.looped n).byteAt .rxbuf j =
      if j < n ∧ j < s.params.rxCap then s.bufRead .txbuf j else s.byteAt .rxbuf j := by
  induction n with
  | zero => simp [State.looped, loopCopies]
  | succ n ih =>
    have hlast := State.byteAt_bufWrite_rxbuf ((s.looped n).record (.byte ((s.looped n).bufRead .txbuf n))) n
      (s.bufRead .txbuf n) j
    rw [State.looped_succ, hlast]
    simp only [State.record_params, State.looped_params]
    by_cases hj : j = n ∧ j < s.params.rxCap
    · obtain ⟨rfl, hcap⟩ := hj
      rw [if_pos ⟨rfl, hcap⟩, if_pos ⟨Nat.lt_succ_self j, hcap⟩]
    · rw [if_neg hj]
      exact ih.trans (if_congr (by omega) rfl rfl)

/-- The run of the line LOOP: the copies, then OLEN written to RLEN. -/
theorem core_run_loop {s : State} {rest : List Event} (hl : s.params.legal = true)
    (hp : s.pending = .line .loop :: rest) :
    Host.Core.run Sys2Proof.core (2 * s.olen.toNat + 2) s =
      .next (({ s.looped s.olen.toNat with
        rlen := BitVec.ofNat 16 (min s.olen.toNat s.params.rxCap), pending := rest }).setRV false) := by
  have hes : ∀ e ∈ loopCopies s s.olen.toNat ++ [writeEvent .rlen (s.olen.setWidth 32)], e.IsAccess := by
    intro e he
    rcases List.mem_append.mp he with hcopy | hlast
    · exact loopCopies_isAccess s _ e hcopy
    · exact List.mem_singleton.mp hlast ▸ Event.isAccess_writeEvent (r := .rlen) nofun _
  have hrun := core_run_line (later := []) (es := loopCopies s s.olen.toNat ++ [writeEvent .rlen (s.olen.setWidth 32)])
    hl hp (List.append_nil _).symm hes 0
  rw [List.length_append, length_loopCopies, List.foldl_append] at hrun
  rw [← clamp16_setWidth, ← s.looped_params s.olen.toNat]
  exact hrun

/-- Settles O60: `State.looped` says what the copies leave; the write to RLEN then clamps OLEN and clears RV. -/
theorem loopLineCopiesFrame : Obligations.LoopLineCopiesFrame := by
  rintro s rest _ sent rfl hsent hl hp
  obtain rfl : sent = s.bufRead .txbuf := funext hsent
  have hbytes := s.looped_rxbuf s.olen.toNat
  refine ⟨_, core_run_loop hl hp, fun i hi hcap => (hbytes i).trans (if_pos ⟨hi, hcap⟩),
    fun i hi => (hbytes i).trans (if_neg (by omega)), ?_, statusRV_pack _ _ _,
    (statusErr_pack _ _ _).trans (s.looped_err _), (statusQV_pack _ _ _).trans (s.looped_qv _), ?_⟩
  · exact (BitVec.toNat_ofNat _ _).trans (Nat.mod_eq_of_lt (lt_of_le_of_lt (Nat.min_le_left _ _) s.olen.isLt))
  · conv_lhs => rw [State.looped_frame]
    rfl

end Sys2Proof.Machine
end

section
/-! The trailer functions (40_trailer.md R111 to R114, R121 to R124): what checksum and CRC say about a byte sequence,
and that a flipped bit changes either. -/

namespace Sys2Proof.Machine

/-! ### The bytes of a word -/

theorem lowByte_toNat (v : BitVec 16) : (lowByte v).toNat = v.toNat % 256 := by
  simp [lowByte, BitVec.extractLsb'_toNat]

theorem highByte_toNat (v : BitVec 16) : (highByte v).toNat = v.toNat / 256 := by
  have h := v.isLt
  simp only [highByte, BitVec.extractLsb'_toNat, Nat.shiftRight_eq_div_pow]
  omega

theorem littleEndian16_xor (lo hi lo' hi' : Byte) :
    littleEndian16 lo hi ^^^ littleEndian16 lo' hi' = littleEndian16 (lo ^^^ lo') (hi ^^^ hi') :=
  BitVec.xor_append

/-! ### Checksum and CRC of a sequence -/

/-- Settles O21: the accumulator behind `s ++ [t]` is that behind `s` plus `t`, and the checksum is the negative of the
former. -/
theorem checksumBringsSumToZero : Obligations.ChecksumBringsSumToZero := by
  intro s t
  have hacc : (s ++ [t]).foldl ckStep 0 = s.foldl ckStep 0 + t := by rw [List.foldl_append]; rfl
  rw [← ckFold_toNat, hacc, cksum8, eq_neg_iff_add_eq_zero, add_comm t]
  exact BitVec.toNat_inj.symm

/-- Settles O22: the printed values are computed; no other start reaches 0x9060, because a CRC step loses nothing. -/
theorem crcOfTheExampleFrame : Obligations.CrcOfTheExampleFrame := by
  have hframe : [0x53#8, 0x65#8, 0x08#8, 0x00#8, 0x04#8, 0x60#8].foldl crcStep 0x1D0F#16 = 0x9060#16 := by
    decide +kernel
  have hstart (c : BitVec 16) :
      [0x53#8, 0x65#8, 0x08#8, 0x00#8, 0x04#8, 0x60#8].foldl crcStep c = 0x9060#16 ↔ c = 0x1D0F#16 :=
    ⟨fun h => crcFold_inj _ (h.trans hframe.symm), fun h => h ▸ hframe⟩
  exact ⟨fun bs => ⟨rfl, _, _, rfl, lowByte_toNat _, highByte_toNat _⟩, rfl, by decide +kernel, by decide +kernel,
    by decide +kernel, by decide +kernel, by decide +kernel, hframe, hstart, by decide +kernel, by decide +kernel⟩

/-- The eight shifts move a low byte up unchanged: before each of them bit 15 is 0. -/
theorem crcShifts_lowByte (lo : Byte) : crcShifts 8 (littleEndian16 lo 0#8) = littleEndian16 0#8 lo := by
  revert lo; decide +kernel

/-- A CRC step by table look-up (40_trailer.md R124): only the high byte meets the polynomial. -/
theorem crcStep_eq_table (c : BitVec 16) (b : Byte) :
    crcStep c b = littleEndian16 0#8 (lowByte c) ^^^ crcTable (highByte c ^^^ b) := by
  have hsplit : c ^^^ littleEndian16 0#8 b =
      littleEndian16 (lowByte c) 0#8 ^^^ littleEndian16 0#8 (highByte c ^^^ b) := by
    conv_lhs => rw [← littleEndian16_bytes c]
    simp only [littleEndian16_xor, BitVec.xor_zero, BitVec.zero_xor]
  calc crcStep c b
    _ = crcShifts 8 (littleEndian16 (lowByte c) 0#8 ^^^ littleEndian16 0#8 (highByte c ^^^ b)) :=
      congrArg (crcShifts 8) hsplit
    _ = littleEndian16 0#8 (lowByte c) ^^^ crcTable (highByte c ^^^ b) := by
      rw [crcShifts_xor, crcShifts_lowByte]; rfl

/-- Settles O23: both functions are folds, and a step is `crcStep_eq_table` read as numbers. -/
theorem incrementalAndTableForms : Obligations.IncrementalAndTableForms := by
  refine ⟨fun a b => List.foldl_append, fun a b => List.foldl_append, fun c b => ?_, by decide +kernel,
    by decide +kernel, by decide +kernel⟩
  have hlow : (littleEndian16 0#8 (lowByte c)).toNat = c.toNat * 256 % 65536 := by
    rw [littleEndian16_toNat, lowByte_toNat, BitVec.toNat_zero]
    omega
  have hhigh : BitVec.ofNat 8 (c.toNat / 256) = highByte c := by
    rw [← highByte_toNat, BitVec.ofNat_toNat, BitVec.setWidth_eq]
  rw [crcStep_eq_table, BitVec.toNat_xor, hlow, hhigh]

/-! ### The trailer check -/

theorem tok_iff {m : BitVec 1} {span t : List Byte} : tok m span t = true ↔ t = tbytes m span := decide_eq_true_iff

theorem tok_eq_false_iff {m : BitVec 1} {span t : List Byte} : tok m span t = false ↔ t ≠ tbytes m span :=
  decide_eq_false_iff_not

/-- The CRC on the wire is its little-endian word (40_trailer.md R114, R120). -/
theorem tbytes_crc_iff {span : List Byte} {lo hi : Byte} :
    [lo, hi] = tbytes 1 span ↔ littleEndian16 lo hi = crc16 span := by
  constructor
  · intro h
    obtain ⟨rfl, rfl⟩ : lo = lowByte (crc16 span) ∧ hi = highByte (crc16 span) := by simpa [tbytes] using h
    exact littleEndian16_bytes _
  · intro h
    obtain ⟨rfl, rfl⟩ := littleEndian16_inj (h.trans (littleEndian16_bytes _).symm)
    rfl

theorem tbytes_crc_inj {a b : List Byte} (h : tbytes 1 a = tbytes 1 b) : crc16 a = crc16 b :=
  (littleEndian16_bytes _).symm.trans (tbytes_crc_iff.mp h)

theorem cksum8_inj_byte {a c : List Byte} {x y : Byte} (h : cksum8 (a ++ x :: c) = cksum8 (a ++ y :: c)) : x = y := by
  have hfold := neg_inj.mp h
  simp only [List.foldl_append, List.foldl_cons] at hfold
  rw [ckFold_eq c, ckFold_eq c (ckStep _ y)] at hfold
  exact add_left_cancel (add_right_cancel hfold)

theorem crc16_inj_byte {a c : List Byte} {x y : Byte} (h : crc16 (a ++ x :: c) = crc16 (a ++ y :: c)) : x = y := by
  simp only [crc16, List.foldl_append, List.foldl_cons] at h
  exact crcStep_inj_right (crcFold_inj c h)

/-- Two spans that differ in one byte have different trailers. -/
theorem tbytes_inj_byte {m : BitVec 1} {a c : List Byte} {x y : Byte}
    (h : tbytes m (a ++ x :: c) = tbytes m (a ++ y :: c)) : x = y := by
  obtain rfl | rfl := BitVec.eq_zero_or_eq_one m
  · exact cksum8_inj_byte (List.singleton_inj.mp h)
  · exact crc16_inj_byte (tbytes_crc_inj h)

theorem flipByte_ne (b : Byte) {k : Nat} (hk : k < 8) : flipByte b k ≠ b := by
  have hbit : ∀ j < 8, 1#8 <<< j ≠ 0#8 := by decide
  exact fun h => hbit k hk ((BitVec.xor_right_inj b).mp (h.trans BitVec.xor_zero.symm))

/-- Flipping a bit within a sequence replaces one byte by another. -/
theorem flipBit_split {bs : List Byte} {i k : Nat} (hi : i < bs.length) (hk : k < 8) :
    ∃ a x y c, bs = a ++ x :: c ∧ flipBit bs i k = a ++ y :: c ∧ y ≠ x := by
  obtain ⟨a, x, c, hbs, -, hflip⟩ := List.exists_of_modify (fun b => flipByte b k) hi
  exact ⟨a, x, flipByte x k, c, hbs, hflip, flipByte_ne x hk⟩

/-- Settles O24: with a byte of the span replaced the computed trailer is another; with a byte of the trailer replaced
the received one is. -/
theorem singleBitFlipFailsTrailerCheck : Obligations.SingleBitFlipFailsTrailerCheck := by
  intro m span t i k hok hk
  obtain rfl := tok_iff.mp hok
  refine ⟨fun hi => tok_eq_false_iff.mpr ?_, fun hi => tok_eq_false_iff.mpr ?_⟩
  · obtain ⟨a, x, y, c, rfl, hflip, hne⟩ := flipBit_split hi hk
    rw [hflip]
    exact fun h => hne (tbytes_inj_byte h).symm
  · obtain ⟨a, x, y, c, hbs, hflip, hne⟩ := flipBit_split hi hk
    rw [hflip, hbs]
    exact fun h => hne (List.cons.inj (List.append_cancel_left h)).1

end Sys2Proof.Machine
end

section
/-! The standalone trailer operations (40_trailer.md R115 to R120, 60_exceptions.md R196), for both trailer modes at once:
what a GEN and what a CHK operation leaves, and their frame. -/

namespace Sys2Proof.Machine

/-- TRL of a checksum operation (10_state.md R43). -/
theorem tvalue_checksum_toNat (span : List Byte) : (tvalue 0 span).toNat = (cksum8 span).toNat :=
  BitVec.toNat_setWidth_of_le (show 8 ≤ 16 by decide) (b := cksum8 span)

/-! ### GEN -/

/-- A GEN operation whose trailer does not fit changes TRL and ERR alone. -/
theorem State.generateTrailer_overflow_spec {s : State} {m : BitVec 1} (h : s.params.txCap < s.spanEnd + tlen m) :
    ∃ t, s.generateTrailer m = .next t ∧ t.err = 1 ∧ t.trl = 0 ∧ s.SameFlags t ∧
      t = { s with status := t.status, trl := t.trl } :=
  ⟨_, State.generateTrailer_overflow h, State.err_setErr _ _, rfl, State.setErr_sameFlags { s with trl := 0 } _, rfl⟩

theorem State.generated_sameFlags (s : State) (m : BitVec 1) : s.SameFlags (s.generated m) :=
  ⟨statusRV_pack _ _ _, statusQV_pack _ _ _⟩

theorem State.generated_sameOutside (s : State) (m : BitVec 1) :
    s.SameOutside (s.generated m) .txbuf s.spanEnd (s.spanEnd + tlen m) := by
  intro i hi
  exact s.byteAt_storeBytes_of_not .txbuf .txbuf _ _ i (by rw [length_tbytes]; exact fun hin => hi hin.2)

/-- The trailer stands behind the span. -/
theorem State.generated_trailer (s : State) (m : BitVec 1) :
    (s.generated m).span .txbuf s.spanEnd (tlen m) = tbytes m (s.span .txbuf s.soff.toNat s.slen.toNat) := by
  have hback := s.span_storeBytes .txbuf s.spanEnd (tbytes m (s.span .txbuf s.soff.toNat s.slen.toNat))
  rwa [length_tbytes] at hback

/-- Settles O25: `State.generated` for the checksum, whose trailer is one byte. -/
theorem cksum8GenAppendsChecksum : Obligations.Cksum8GenAppendsChecksum := by
  rintro s _ rfl
  refine ⟨fun hfit => ⟨_, State.generateTrailer_fits (m := 0) hfit, State.err_setErr _ _, ?_, tvalue_checksum_toNat _,
    s.generated_sameFlags 0, s.generated_sameOutside 0, rfl⟩, State.generateTrailer_overflow_spec (m := 0)⟩
  exact (List.cons.inj (s.generated_trailer 0)).1

/-- Settles O27: `State.generated` for the CRC, whose trailer is its low and its high byte. -/
theorem crc16GenAppendsCrc : Obligations.Crc16GenAppendsCrc := by
  rintro s _ rfl
  refine ⟨fun hfit => ⟨_, State.generateTrailer_fits (m := 1) hfit, State.err_setErr _ _, rfl, ?_, ?_,
    s.generated_sameFlags 1, s.generated_sameOutside 1, rfl⟩, State.generateTrailer_overflow_spec (m := 1)⟩
  · have hlow := (List.cons.inj (s.generated_trailer 1)).1
    exact (congrArg BitVec.toNat hlow).trans (lowByte_toNat _)
  · have hhigh := (List.cons.inj (List.cons.inj (s.generated_trailer 1)).2).1
    exact (congrArg BitVec.toNat hhigh).trans (highByte_toNat _)

/-! ### CHK -/

/-- A CHK operation whose span and trailer reach past RLEN changes TRL and ERR alone. -/
theorem State.checkTrailer_short_spec {s : State} {m : BitVec 1} (h : s.rlen.toNat < s.spanEnd + tlen m) :
    ∃ t, s.checkTrailer m = .next t ∧ t.err = 4 ∧ t.trl = 0 ∧ s.SameFlags t ∧
      t = { s with status := t.status, trl := t.trl } :=
  ⟨_, State.checkTrailer_short h, State.err_setErr _ _, rfl, State.setErr_sameFlags { s with trl := 0 } _, rfl⟩

theorem State.checked_sameFlags (s : State) (m : BitVec 1) : s.SameFlags (s.checked m) :=
  ⟨statusRV_pack _ _ _, statusQV_pack _ _ _⟩

theorem tok_checksum (span : List Byte) (b : Byte) : tok 0 span [b] = true ↔ b = cksum8 span :=
  tok_iff.trans List.singleton_inj

theorem tok_crc (span : List Byte) (lo hi : Byte) :
    tok 1 span [lo, hi] = true ↔ lo.toNat + 256 * hi.toNat = (crc16 span).toNat := by
  rw [← littleEndian16_toNat, BitVec.toNat_inj, tok_iff]
  exact tbytes_crc_iff

/-- ERR behind a CHK operation, with the comparison as a proposition. -/
theorem State.checked_err {s : State} {m : BitVec 1} {P : Prop} [Decidable P]
    (h : tok m (s.span .rxbuf s.soff.toNat s.slen.toNat) (s.span .rxbuf s.spanEnd (tlen m)) = true ↔ P) :
    (s.checked m).err = if P then 0 else 5 := by
  rw [State.checked, State.err_setErr, if_congr h rfl rfl]
  split_ifs <;> rfl

/-- Settles O26: `State.checked` for the checksum, whose trailer is one byte. -/
theorem cksum8ChkComparesChecksum : Obligations.Cksum8ChkComparesChecksum := by
  rintro s _ rfl hr
  exact ⟨fun hfit => ⟨_, State.checkTrailer_fits (m := 0) hfit hr, tvalue_checksum_toNat _,
    State.checked_err (tok_checksum _ _), s.checked_sameFlags 0, rfl⟩, State.checkTrailer_short_spec (m := 0)⟩

/-- Settles O28: `State.checked` for the CRC, whose trailer is two bytes, compared as a little-endian word. -/
theorem crc16ChkComparesCrc : Obligations.Crc16ChkComparesCrc := by
  rintro s _ rfl hr
  exact ⟨fun hfit => ⟨_, State.checkTrailer_fits (m := 1) hfit hr, rfl, State.checked_err (tok_crc _ _ _),
    s.checked_sameFlags 1, rfl⟩, State.checkTrailer_short_spec (m := 1)⟩

/-! ### The frame -/

/-- What a GEN operation may write of TXBUF. -/
theorem State.generateTrailer_txbuf {s t : State} {m : BitVec 1} (h : s.generateTrailer m = .next t) :
    if s.spanEnd + tlen m ≤ s.params.txCap then s.SameOutside t .txbuf s.spanEnd (s.spanEnd + tlen m)
    else s.SameBytes t .txbuf := by
  rcases State.generateTrailer_next h with ⟨hover, rfl⟩ | ⟨hfit, rfl⟩
  · rw [if_neg (Nat.not_le.mpr hover)]
    exact fun _ => rfl
  · rw [if_pos hfit]
    exact s.generated_sameOutside m

theorem exec_sameFlags {i : Instr} {s t : State} (h : exec i s = .next t) (hdec : i ≠ .decode) (hp : i ≠ .qpeek)
    (hd : i ≠ .qdeq) (hr : i ≠ .qrst) : s.SameFlags t :=
  ⟨exec_statusRV h hdec, exec_statusQV h hp hd hr⟩

/-- Settles O29: the registers are read off the operations' frames, the flags off what they leave in STATUS. -/
theorem trailerOperationsFrame : Obligations.TrailerOperationsFrame := by
  intro s t i h
  refine ⟨fun hi => ?_, fun hi => ?_, fun hi => ?_, fun hi => ?_⟩
  · rcases hi with rfl | rfl <;> exact ⟨exec_sameFlags h nofun nofun nofun nofun, exec_frame h⟩
  · rcases hi with rfl | rfl <;> exact ⟨exec_sameFlags h nofun nofun nofun nofun, exec_frame h⟩
  · subst hi
    exact State.generateTrailer_txbuf (m := 0) h
  · subst hi
    exact State.generateTrailer_txbuf (m := 1) h

end Sys2Proof.Machine
end

section
/-! BUILD (41_build.md R131 to R137): the error a failing one reports, the frame a successful one writes, and what a
buffer that holds a command's frame says, field by field, for the sender's TXBUF and the receiver's RXBUF alike. -/

namespace Sys2Proof.Machine

/-! ### The two outcomes -/

theorem State.built_err (s : State) : s.built.err = 0 := State.err_setErr _ _

theorem State.buildFailed_err (s : State) : s.buildFailed.err = s.buildError.code.toNat := State.err_setErr _ _

theorem State.buildFailed_err_ne_zero (s : State) : s.buildFailed.err ≠ 0 :=
  State.err_setErr_ne_zero _ s.buildError_ne_ok

/-- ERR 0 tells a success from a failure. -/
theorem execBuild_ok {s t : State} (h : execBuild s = .next t) (herr : t.err = 0) : s.Buildable ∧ t = s.built := by
  rcases execBuild_next h with ⟨hb, -, ht⟩ | ⟨-, -, rfl⟩
  · exact ⟨hb, ht⟩
  · exact absurd herr s.buildFailed_err_ne_zero

theorem execBuild_not_ok {s t : State} (h : execBuild s = .next t) (herr : t.err ≠ 0) : t = s.buildFailed := by
  rcases execBuild_next h with ⟨-, -, rfl⟩ | ⟨-, -, ht⟩
  · exact absurd s.built_err herr
  · exact ht

/-- Settles O32: the registers are read off BUILD's frame; of TXBUF a success writes the frame's length, a failure CAP
bytes. -/
theorem buildFrame : Obligations.BuildFrame := by
  intro s t h
  refine ⟨exec_sameFlags h nofun nofun nofun nofun, exec_frame h, fun herr => ?_, fun herr => ?_⟩
  · obtain ⟨hb, rfl⟩ := execBuild_ok h herr
    refine ⟨rfl, fun i hi => s.byteAt_storeBytes_of_not .txbuf .txbuf 0 s.frame i ?_⟩
    rw [State.built_olen hb] at hi
    rw [State.length_frame]
    omega
  · obtain rfl := execBuild_not_ok h herr
    refine fun i hi => s.byteAt_storeBytes_of_not .txbuf .txbuf 0 s.drawnBytes i ?_
    rw [State.length_drawnBytes]
    omega

/-! ### The error (41_build.md R132) -/

theorem State.buildError_of_tooLarge {s : State} (hl : s.params.maxBody < s.blen.toNat)
    (hc : s.frameLength ≤ s.cap.toNat) : s.buildError = .payloadTooLarge := by
  simp [State.buildError, State.tooLarge, State.tooSmall, hl, Nat.not_lt.mpr hc]

theorem State.buildError_of_tooSmall {s : State} (hl : s.blen.toNat ≤ s.params.maxBody) :
    s.buildError = .capacityExceeded := by
  simp [State.buildError, State.tooLarge, Nat.not_lt.mpr hl]

section
variable {s : State} (hl : s.params.maxBody < s.blen.toNat) (hc : s.cap.toNat < s.frameLength)
include hl hc

theorem State.buildError_capacityFirst (ho : s.params.buildErrOrder = .capacityFirst) :
    s.buildError = .capacityExceeded := by
  simp [State.buildError, State.tooLarge, State.tooSmall, hl, hc, ho]

theorem State.buildError_payloadFirst (ho : s.params.buildErrOrder = .payloadFirst) :
    s.buildError = .payloadTooLarge := by
  simp [State.buildError, State.tooLarge, State.tooSmall, hl, hc, ho]

end

/-- Two BUILDs with the same errors to report differ only where BUILD_ERR_ORDER leaves the choice open. -/
theorem State.buildError_congr {s s' : State} (hp : s.params = s'.params) (hl : s.tooLarge = s'.tooLarge)
    (hc : s.tooSmall = s'.tooSmall) :
    s.buildError = s'.buildError ∨
      (s.params.buildErrOrder = .either ∧ s.params.maxBody < s.blen.toNat ∧ s.cap.toNat < s.frameLength) := by
  simp only [State.buildError, ← hp, ← hl, ← hc]
  cases s.params.buildErrOrder with
  | capacityFirst => exact .inl rfl
  | payloadFirst => exact .inl rfl
  | either =>
    by_cases hboth : (s.tooLarge && s.tooSmall) = true
    · exact .inr ⟨rfl, by simpa [State.tooLarge, State.tooSmall] using hboth⟩
    · exact .inl (by simp only [if_neg hboth])

/-- Settles O31: a BUILD with an error ends in `State.buildFailed`, whose error each case names. -/
theorem buildFailureReportsError : Obligations.BuildFailureReportsError := by
  rintro s _ rfl hcap herr
  have hnot : ¬ s.Buildable := fun ⟨hbody, hfit⟩ => herr.elim hbody.not_gt hfit.not_gt
  refine ⟨_, execBuild_of_not hnot hcap, rfl, ?_⟩
  rw [State.buildFailed_err]
  refine ⟨fun hl hc => ?_, fun hl _ => ?_, fun hl hc => ⟨fun ho => ?_, fun ho => ?_, fun _ => ?_⟩⟩
  · rw [State.buildError_of_tooLarge hl hc]; rfl
  · rw [State.buildError_of_tooSmall hl]; rfl
  · rw [State.buildError_capacityFirst hl hc ho]; rfl
  · rw [State.buildError_payloadFirst hl hc ho]; rfl
  · rcases s.buildError_cases with h | h
    · exact .inr (by rw [h]; rfl)
    · exact .inl (by rw [h]; rfl)

/-! ### The fields of a frame -/

theorem State.span_append (x : State) (sp : Space) (lo m n : Nat) :
    x.span sp lo (m + n) = x.span sp lo m ++ x.span sp (lo + m) n := by
  simp [State.span, List.range_add, Nat.add_assoc]

theorem State.span_eq_span_iff {x y : State} {sp sp' : Space} {lo lo' n : Nat} :
    x.span sp lo n = y.span sp' lo' n ↔ ∀ k < n, x.byteAt sp (lo + k) = y.byteAt sp' (lo' + k) := by
  simp [State.span]

/-- The first `s.frameLength` bytes of a space of `x` are the frame of the command in `s`, read field by field
(30_encoding.md R80 to R90). -/
structure State.Carries (x : State) (sp : Space) (s : State) : Prop where
  mark : x.byteAt sp 0 = markByte
  som : x.byteAt sp 1 = somByte
  address : x.byteAt sp 2 = addressByte s.cfg
  length : x.wordAt sp 3 = BitVec.ofNat 16 (s.frameLength - 1)
  control : x.byteAt sp 5 = controlByte s.seq s.mode
  code : x.byteAt sp 6 = s.code
  body : x.span sp 7 s.blen.toNat = s.body
  trailerSpan : x.span sp 1 (6 + s.blen.toNat) = s.frameSpan
  trailer : x.span sp (7 + s.blen.toNat) (tlen s.mode) = tbytes s.mode s.frameSpan

theorem State.Carries.of_span {x s : State} {sp : Space} (h : x.span sp 0 s.frameLength = s.frame) :
    x.Carries sp s := by
  rw [State.frameLength, State.span_append, State.span_append, Nat.zero_add, Nat.zero_add] at h
  obtain ⟨hfront, htrailer⟩ := List.append_inj h (by simp)
  obtain ⟨hheader, hbody⟩ := List.append_inj hfront (by simp)
  have hspan : x.span sp 1 (6 + s.blen.toNat) = s.frameSpan := by
    rw [State.span_append, hbody]
    exact congrArg (· ++ s.body) (List.cons.inj hheader).2
  simp only [State.span, State.frameHeader, List.range_succ, List.range_zero, List.nil_append, List.cons_append,
    List.map_cons, List.map_nil, Nat.zero_add, List.cons.injEq, and_true] at hheader
  obtain ⟨hmark, hsom, haddr, hlow, hhigh, hctrl, hcode⟩ := hheader
  exact
    { mark := hmark
      som := hsom
      address := haddr
      length := (congrArg₂ littleEndian16 hlow hhigh).trans (littleEndian16_bytes _)
      control := hctrl
      code := hcode
      body := hbody
      trailerSpan := hspan
      trailer := htrailer }

/-- BUILD leaves its frame in TXBUF. -/
theorem State.built_span (s : State) : s.built.span .txbuf 0 s.frameLength = s.frame := by
  rw [← State.length_frame]
  exact s.span_storeBytes .txbuf 0 s.frame

theorem State.built_carries (s : State) : s.built.Carries .txbuf s := .of_span s.built_span

section
variable {x s : State} {sp : Space} (h : x.Carries sp s)
include h

/-- The length field as a number, where 16 bits hold the frame's length. -/
theorem State.Carries.length_toNat (hlt : s.frameLength < 65536) :
    (x.wordAt sp 3).toNat = s.frameLength - 1 := by
  rw [h.length, BitVec.toNat_ofNat]
  omega

theorem State.Carries.body_byte {i : Nat} (hi : i < s.blen.toNat) : x.byteAt sp (7 + i) = s.byteAt .cbuf i := by
  simpa using State.span_eq_span_iff.mp h.body i hi

/-- The checksum behind the body (30_encoding.md R86, R90). -/
theorem State.Carries.checksum (hm : s.mode = 0) :
    x.byteAt sp (7 + s.blen.toNat) = cksum8 (x.span sp 1 (6 + s.blen.toNat)) := by
  have htrailer := h.trailer
  rw [hm, ← h.trailerSpan] at htrailer
  exact (List.cons.inj htrailer).1

/-- The CRC behind the body, low byte first (30_encoding.md R86, R90). -/
theorem State.Carries.crc (hm : s.mode = 1) :
    (x.byteAt sp (7 + s.blen.toNat)).toNat + 256 * (x.byteAt sp (8 + s.blen.toNat)).toNat =
      (crc16 (x.span sp 1 (6 + s.blen.toNat))).toNat := by
  have htrailer := h.trailer
  rw [hm, ← h.trailerSpan] at htrailer
  rw [show 8 + s.blen.toNat = 7 + s.blen.toNat + 1 by omega]
  exact (tok_crc _ _ _).mp (tok_iff.mpr htrailer)

end

/-- Settles O30: the fields of the frame that BUILD leaves in TXBUF, as numbers. -/
theorem buildWritesFrame : Obligations.BuildWritesFrame := by
  rintro s _ rfl hcap hbody hfit
  have hb : s.Buildable := ⟨hbody, hfit⟩
  have hf := s.built_carries
  have hlength := hf.length_toNat hb.frameLength_lt
  rw [State.wordAt, littleEndian16_toNat] at hlength
  refine ⟨_, execBuild_of_buildable hb hcap, s.built_err, State.built_olen hb, hf.mark, hf.som, ?_, ?_, ?_, hf.code,
    fun _ => hf.body_byte, hf.checksum, hf.crc⟩
  · rw [hf.address, addressByte_toNat]
  · rw [hlength]
    simp only [State.frameLength, tlen]
    omega
  · rw [hf.control, controlByte_toNat]

/-- Settles O33: the length field of the frame just written, and OLEN its length. -/
theorem buildLengthInvariant : Obligations.BuildLengthInvariant := by
  intro s t h herr
  obtain ⟨hb, rfl⟩ := execBuild_ok h herr
  have hlength := s.built_carries.length_toNat hb.frameLength_lt
  rwa [← State.built_olen hb, State.wordAt, littleEndian16_toNat] at hlength

/-! ### BUILD as a function of its operands (41_build.md R135) -/

/-- `s` and `s'` hand BUILD the same command, sequence number, mode and address byte. -/
structure State.SameBuild (s s' : State) : Prop where
  address : addressByte s.cfg = addressByte s'.cfg
  code : s.code = s'.code
  seq : s.seq = s'.seq
  mode : s.mode = s'.mode
  blen : s.blen = s'.blen
  body : s.body = s'.body

section
variable {s s' : State} (h : s.SameBuild s')
include h

theorem State.SameBuild.frameLength : s.frameLength = s'.frameLength := by
  simp only [State.frameLength, h.blen, h.mode]

theorem State.SameBuild.frame : s.frame = s'.frame := by
  simp only [State.frame, State.frameSpan, State.frameHeader, h.frameLength, h.address, h.code, h.seq, h.mode, h.body]

theorem State.SameBuild.built_olen : s.built.olen = s'.built.olen :=
  congrArg (BitVec.ofNat 16) h.frameLength

theorem State.SameBuild.built_byte {i : Nat} (hi : i < s.frameLength) :
    s.built.byteAt .txbuf i = s'.built.byteAt .txbuf i := by
  rw [s.built_byte hi, s'.built_byte (h.frameLength ▸ hi), h.frame]

theorem State.SameBuild.buildable_iff (hp : s.params = s'.params) (hc : s.cap = s'.cap) :
    s.Buildable ↔ s'.Buildable := by
  simp only [State.Buildable, h.blen, h.frameLength, hp, hc]

theorem State.SameBuild.buildError (hp : s.params = s'.params) (hc : s.cap = s'.cap) :
    s.buildError = s'.buildError ∨
      (s.params.buildErrOrder = .either ∧ s.params.maxBody < s.blen.toNat ∧ s.cap.toNat < s.frameLength) :=
  State.buildError_congr hp (by simp only [State.tooLarge, hp, h.blen])
    (by simp only [State.tooSmall, hc, h.frameLength])

end

/-- Settles O34: the same frame whenever both succeed, the same outcome whenever CAP and configuration agree. -/
theorem buildIsAFunction : Obligations.BuildIsAFunction := by
  intro s s' t t' ht ht' haddr hdir hcode hseq hmode hblen hbytes
  have h : s.SameBuild s' :=
    { address := congrArg₂ (fun d a => BitVec.ofBool d ++ a) hdir haddr
      code := hcode
      seq := hseq
      mode := hmode
      blen := hblen
      body := by
        rw [State.body, State.body, ← hblen, State.span_eq_span_iff]
        simpa using hbytes }
  refine ⟨fun herr herr' => ?_, fun hp hc => ?_⟩
  · obtain ⟨hb, rfl⟩ := execBuild_ok ht herr
    obtain ⟨-, rfl⟩ := execBuild_ok ht' herr'
    exact ⟨h.built_olen, fun i hi => h.built_byte (State.built_olen hb ▸ hi)⟩
  · have hiff := h.buildable_iff hp hc
    rcases execBuild_next ht with ⟨hb, -, rfl⟩ | ⟨hb, -, rfl⟩
    · obtain ⟨-, -, rfl⟩ := (execBuild_next ht').resolve_right fun hn => hn.1 (hiff.mp hb)
      exact ⟨h.built_olen, .inl (s.built_err.trans s'.built_err.symm)⟩
    · obtain ⟨-, -, rfl⟩ := (execBuild_next ht').resolve_left fun hn => hb (hiff.mpr hn.1)
      refine ⟨rfl, ?_⟩
      rw [State.buildFailed_err, State.buildFailed_err]
      exact (h.buildError hp hc).imp_left (congrArg fun e : Err => e.code.toNat)

/-! ### DECODE of a built frame (41_build.md R137) -/

theorem addressByte_fields (c : BitVec 9) :
    (addressByte c).toNat = (cfgAddr c).toNat + 128 * (if cfgDir c then 1 else 0) := by
  revert c; decide +kernel

section
variable {u s : State} (h : u.Carries .rxbuf s)
include h

/-- The receiver finds the trailer's length in the control byte. -/
theorem State.Carries.rxTlen : u.rxTlen = tlen s.mode := by
  rw [State.rxTlen, State.rxCtrl, h.control, ctrlMode_controlByte]

theorem State.Carries.rxTrailer_ok (hr : u.rlen.toNat = s.frameLength) :
    tok (ctrlMode u.rxCtrl) u.rxSpan u.rxTrailer = true := by
  have hstart : u.rlen.toNat - u.rxTlen = 7 + s.blen.toNat := by
    rw [hr, h.rxTlen]; exact Nat.add_sub_cancel _ _
  have hlen : 7 + s.blen.toNat - 1 = 6 + s.blen.toNat := by omega
  rw [State.rxSpan, State.rxTrailer, hstart, hlen, h.rxTlen, State.rxCtrl, h.control, ctrlMode_controlByte,
    h.trailerSpan, h.trailer]
  exact tok_iff.mpr rfl

/-- A built frame passes the four checks of DECODE. -/
theorem State.Carries.decodeError_eq_none (hr : u.rlen.toNat = s.frameLength)
    (haddr : cfgAchk u.cfg = false ∨ cfgAddr u.cfg = cfgAddr s.cfg) : u.decodeError = none := by
  have hlt : s.frameLength < 65536 := hr ▸ u.rlen.isLt
  have hroom : 7 + u.rxTlen ≤ u.rlen.toNat := by
    rw [hr, h.rxTlen, State.frameLength]
    omega
  refine u.decodeError_none_iff.mpr ⟨fun _ => h.mark, h.som, (h.length_toNat hlt).trans (hr ▸ rfl), hroom,
    h.rxTrailer_ok hr, fun hchk => ?_⟩
  rw [h.address, byteAddr_addressByte]
  exact (haddr.resolve_left (by simp [hchk])).symm

theorem State.Carries.decoded_plen (hr : u.rlen.toNat = s.frameLength) : u.decoded.plen = s.blen := by
  have hlen : u.rlen.toNat - 7 - u.rxTlen = s.blen.toNat := by
    rw [hr, h.rxTlen, State.frameLength]
    omega
  show BitVec.ofNat 16 (u.rlen.toNat - 7 - u.rxTlen) = s.blen
  rw [hlen, BitVec.ofNat_toNat, BitVec.setWidth_eq]

end

/-- Settles O35: RXBUF carries the frame that BUILD left in TXBUF, so it passes DECODE's checks, and each result is a
field of it. -/
theorem decodeRecoversBuiltCommand : Obligations.DecodeRecoversBuiltCommand := by
  intro s t u ht herr hrlen hfit hbytes haddr
  obtain ⟨hb, rfl⟩ := execBuild_ok ht herr
  have holen := State.built_olen hb
  rw [holen] at hbytes
  have hr : u.rlen.toNat = s.frameLength := hrlen ▸ holen
  have hspan : u.span .rxbuf 0 s.frameLength = s.built.span .txbuf 0 s.frameLength :=
    State.span_eq_span_iff.mpr (by simpa using hbytes)
  have h : u.Carries .rxbuf s := .of_span (hspan.trans s.built_span)
  refine ⟨_, execDecode_of_none (h.decodeError_eq_none hr haddr) hfit, State.err_setErr _ _, by simp [State.decoded],
    h.code, rfl, h.decoded_plen hr, fun _ => h.body_byte, ?_, ?_⟩
  · exact (congrArg BitVec.toNat h.control).trans (controlByte_toNat _ _)
  · exact (congrArg BitVec.toNat h.address).trans (addressByte_fields _)

end Sys2Proof.Machine
end

section
/-! DECODE (42_decode.md R146 to R155): its four checks read as propositions, what it leaves and on what it depends, and
the check at which a built frame with a flipped bit fails. -/

namespace Sys2Proof.Machine

/-! ### The four checks (42_decode.md R146 to R150) -/

/-- Check 1 fails: no start marker (42_decode.md R147). -/
abbrev State.BadMarker (s : State) : Prop :=
  s.rlen.toNat < 2 ∨ (s.params.checkMark = true ∧ s.byteAt .rxbuf 0 ≠ markByte) ∨ s.byteAt .rxbuf 1 ≠ somByte

/-- Check 2 fails: the declared length is not the received one, or leaves no room for a frame (42_decode.md R148). -/
abbrev State.BadLength (s : State) : Prop :=
  s.rlen.toNat < 6 ∨ s.rxLen.toNat ≠ s.rlen.toNat - 1 ∨ s.rlen.toNat < 7 + s.rxTlen

/-- Check 3 fails: the received trailer is not the computed one (42_decode.md R149). -/
abbrev State.BadTrailer (s : State) : Prop := tok (ctrlMode s.rxCtrl) s.rxSpan s.rxTrailer = false

/-- Check 4 fails: the address is checked and is not the expected one (42_decode.md R150). -/
abbrev State.BadAddress (s : State) : Prop :=
  cfgAchk s.cfg = true ∧ byteAddr (s.byteAt .rxbuf 2) ≠ cfgAddr s.cfg

theorem State.decodeError_eq (s : State) :
    s.decodeError =
      if s.BadMarker then some .badSyncByte
      else if s.BadLength then some .lengthMismatch
      else if s.BadTrailer then some .integrityError
      else if s.BadAddress then some .addressMismatch
      else none := by
  simp only [State.decodeError, State.BadMarker, State.BadLength, ite_or, Bool.and_eq_true, bne_iff_ne,
    Bool.not_eq_true']

/-- Past the first two checks there is room for the header and the trailer. -/
theorem State.room_of_not_badLength {s : State} (h : ¬ s.BadLength) : 7 + s.rxTlen ≤ s.rlen.toNat := by
  simp only [not_or, Nat.not_lt] at h
  exact h.2.2

theorem tlen_ctrlMode (b : Byte) : tlen (ctrlMode b) = if b.getLsbD 2 then 2 else 1 := by
  revert b; decide +kernel

theorem State.rxTlen_eq (s : State) : s.rxTlen = if (s.byteAt .rxbuf 5).getLsbD 2 then 2 else 1 := tlen_ctrlMode _

theorem State.badLength_iff (s : State) :
    s.BadLength ↔ s.rlen.toNat < 6 ∨
      (s.byteAt .rxbuf 3).toNat + 256 * (s.byteAt .rxbuf 4).toNat ≠ s.rlen.toNat - 1 ∨
      s.rlen.toNat < 7 + s.rxTlen := by
  rw [State.BadLength, State.rxLen, State.wordAt, littleEndian16_toNat]

/-- The third check, by the trailer's length: a checksum byte, or a CRC read little-endian. -/
theorem State.badTrailer_iff {s : State} (h : 2 ≤ s.rlen.toNat) :
    s.BadTrailer ↔
      (s.rxTlen = 1 ∧ s.byteAt .rxbuf (s.rlen.toNat - 1) ≠ cksum8 (s.span .rxbuf 1 (s.rlen.toNat - 2))) ∨
        (s.rxTlen = 2 ∧
          (s.byteAt .rxbuf (s.rlen.toNat - 2)).toNat + 256 * (s.byteAt .rxbuf (s.rlen.toNat - 1)).toNat ≠
            (crc16 (s.span .rxbuf 1 (s.rlen.toNat - 3))).toNat) := by
  rw [State.BadTrailer, ← Bool.not_eq_true, State.rxSpan, State.rxTrailer]
  obtain hm | hm : ctrlMode s.rxCtrl = 0 ∨ ctrlMode s.rxCtrl = 1 := BitVec.eq_zero_or_eq_one _
  · have ht : s.rxTlen = 1 := congrArg tlen hm
    have hspan : s.span .rxbuf (s.rlen.toNat - 1) 1 = [s.byteAt .rxbuf (s.rlen.toNat - 1)] := rfl
    rw [hm, ht, hspan, tok_checksum, Nat.sub_sub]
    simp
  · have ht : s.rxTlen = 2 := congrArg tlen hm
    have hspan : s.span .rxbuf (s.rlen.toNat - 2) 2 =
        [s.byteAt .rxbuf (s.rlen.toNat - 2), s.byteAt .rxbuf (s.rlen.toNat - 1)] := by
      rw [show s.rlen.toNat - 1 = s.rlen.toNat - 2 + 1 by omega]
      rfl
    rw [hm, ht, hspan, tok_crc, Nat.sub_sub]
    simp

theorem State.badAddress_iff (s : State) :
    s.BadAddress ↔ cfgAchk s.cfg = true ∧ (s.byteAt .rxbuf 2).toNat % 128 ≠ (cfgAddr s.cfg).toNat := by
  have hlow : (byteAddr (s.byteAt .rxbuf 2)).toNat = (s.byteAt .rxbuf 2).toNat % 128 := by
    simp [byteAddr, BitVec.extractLsb'_toNat]
  rw [← hlow, State.BadAddress, ne_eq, ne_eq, BitVec.toNat_inj]

/-! ### What DECODE leaves (42_decode.md R151, R152) -/

theorem State.decodeFailed_status (s : State) (e : Err) :
    (s.decodeFailed e).status = packStatus e.code false (statusQV s.status) := by
  simp [State.decodeFailed, State.setErr, State.setRV]

theorem State.decoded_status (s : State) : s.decoded.status = packStatus Err.ok.code true (statusQV s.status) := by
  simp [State.decoded, State.setErr, State.setRV]

theorem State.decodeFailed_err (s : State) (e : Err) : (s.decodeFailed e).err = e.code.toNat := State.err_setErr _ _

theorem State.decoded_err (s : State) : s.decoded.err = 0 := State.err_setErr _ _

theorem State.decodeFailed_rv (s : State) (e : Err) : statusRV (s.decodeFailed e).status = false := by
  rw [State.decodeFailed_status, statusRV_pack]

theorem State.decoded_rv (s : State) : statusRV s.decoded.status = true := by
  rw [State.decoded_status, statusRV_pack]

/-- DECODE within RXBUF ends with the error of the first check that fails, or with none. -/
theorem execDecode_err {s : State} (hr : s.rlen.toNat ≤ s.params.rxCap) :
    ∃ t, execDecode s = .next t ∧ t.err = (s.decodeError.getD .ok).code.toNat := by
  cases hd : s.decodeError with
  | some e => exact ⟨_, execDecode_of_error hd hr, s.decodeFailed_err e⟩
  | none => exact ⟨_, execDecode_of_none hd hr, s.decoded_err⟩

/-- Settles O37: `State.decodeError_eq`, with each check read as bytes; only that of the trailer needs the room that the
one before it has found. -/
theorem decodeReportsFirstFailedCheck : Obligations.DecodeReportsFirstFailedCheck := by
  rintro s _ _ rfl rfl hr
  obtain ⟨t, ht, herr⟩ := execDecode_err hr
  refine ⟨t, ht, ?_⟩
  rw [herr, State.decodeError_eq, ← s.rxTlen_eq]
  simp only [apply_ite (fun o : Option Err => (o.getD .ok).code.toNat)]
  refine ite_congr rfl (fun _ => rfl) fun _ => ite_congr (propext s.badLength_iff) (fun _ => rfl) fun hlen => ?_
  have hroom := State.room_of_not_badLength (mt s.badLength_iff.mp hlen)
  exact ite_congr (propext (State.badTrailer_iff (by omega))) (fun _ => rfl) fun _ =>
    ite_congr (propext s.badAddress_iff) (fun _ => rfl) fun _ => rfl

/-- Settles O38: a success describes the frame (`State.decoded_viewDescribes`), a failure clears the group, and the rest
is DECODE's frame. -/
theorem decodeResultsAndFrame : Obligations.DecodeResultsAndFrame := by
  intro s t h
  refine ⟨fun herr => ?_, fun herr => ?_, exec_statusQV h nofun nofun nofun, exec_frame h⟩
  · obtain ⟨-, ⟨e, he, rfl⟩ | ⟨hnone, rfl⟩⟩ := execDecode_next h
    · exact absurd herr (State.err_setErr_ne_zero _ (State.decodeError_ne_ok he))
    · have hv := State.decoded_viewDescribes hnone
      rw [← s.rxTlen_eq]
      exact ⟨hv.codeIs, hv.ctrlIs, hv.addrIs, hv.offIs, hv.lenIs, s.decoded_rv⟩
  · obtain ⟨-, ⟨e, -, rfl⟩ | ⟨-, rfl⟩⟩ := execDecode_next h
    · exact ⟨rfl, rfl, rfl, rfl, rfl, s.decodeFailed_rv e⟩
    · exact absurd s.decoded_err herr

/-! ### DECODE as a function of its inputs (42_decode.md R154) -/

/-- `s` and `s'` hand DECODE the same inputs. -/
structure State.SameDecodeInputs (s s' : State) : Prop where
  checkMark : s.params.checkMark = s'.params.checkMark
  addr : cfgAddr s.cfg = cfgAddr s'.cfg
  achk : cfgAchk s.cfg = cfgAchk s'.cfg
  rlen : s.rlen = s'.rlen
  bytes : ∀ i, i < s.rlen.toNat → s.byteAt .rxbuf i = s'.byteAt .rxbuf i

section
variable {s s' : State} (h : s.SameDecodeInputs s')
include h

theorem State.SameDecodeInputs.badMarker_iff : s.BadMarker ↔ s'.BadMarker := by
  rw [State.BadMarker, State.BadMarker, ← h.rlen]
  refine or_congr_right' fun hn => ?_
  rw [h.checkMark, h.bytes 0 (by omega), h.bytes 1 (by omega)]

theorem State.SameDecodeInputs.rxCtrl (hn : 6 ≤ s.rlen.toNat) : s.rxCtrl = s'.rxCtrl := h.bytes 5 hn

theorem State.SameDecodeInputs.rxTlen (hn : 6 ≤ s.rlen.toNat) : s.rxTlen = s'.rxTlen :=
  congrArg (fun c => tlen (ctrlMode c)) (h.rxCtrl hn)

theorem State.SameDecodeInputs.badLength_iff : s.BadLength ↔ s'.BadLength := by
  rw [State.BadLength, State.BadLength, ← h.rlen]
  refine or_congr_right' fun hn => ?_
  have hlen : s.rxLen = s'.rxLen := congrArg₂ littleEndian16 (h.bytes 3 (by omega)) (h.bytes 4 (by omega))
  rw [hlen, h.rxTlen (by omega)]

theorem State.SameDecodeInputs.badTrailer_iff (hroom : 7 + s.rxTlen ≤ s.rlen.toNat) :
    s.BadTrailer ↔ s'.BadTrailer := by
  have hspan : s.rxSpan = s'.rxSpan := by
    rw [State.rxSpan, State.rxSpan, ← h.rlen, ← h.rxTlen (by omega)]
    exact State.span_congr fun k hk => h.bytes _ (by omega)
  have htrailer : s.rxTrailer = s'.rxTrailer := by
    rw [State.rxTrailer, State.rxTrailer, ← h.rlen, ← h.rxTlen (by omega)]
    exact State.span_congr fun k hk => h.bytes _ (by omega)
  rw [State.BadTrailer, State.BadTrailer, h.rxCtrl (by omega), hspan, htrailer]

theorem State.SameDecodeInputs.badAddress_iff (hn : 2 < s.rlen.toNat) : s.BadAddress ↔ s'.BadAddress := by
  rw [State.BadAddress, State.BadAddress, h.achk, h.addr, h.bytes 2 hn]

/-- Each check reads RXBUF no further than those before it have found it to reach. -/
theorem State.SameDecodeInputs.decodeError : s.decodeError = s'.decodeError := by
  rw [State.decodeError_eq, State.decodeError_eq]
  refine ite_congr (propext h.badMarker_iff) (fun _ => rfl) fun _ =>
    ite_congr (propext h.badLength_iff) (fun _ => rfl) fun hlen => ?_
  have hroom := State.room_of_not_badLength (mt h.badLength_iff.mp hlen)
  exact ite_congr (propext (h.badTrailer_iff hroom)) (fun _ => rfl) fun _ =>
    ite_congr (propext (h.badAddress_iff (by omega))) (fun _ => rfl) fun _ => rfl

theorem State.SameDecodeInputs.decoded_plen (hn : 6 ≤ s.rlen.toNat) : s.decoded.plen = s'.decoded.plen := by
  simp only [State.decoded, State.setErr_plen, State.setRV_plen, h.rlen, h.rxTlen hn]

end

/-- DECODE writes none of its inputs. -/
theorem execDecode_sameDecodeInputs {s t : State} (h : exec .decode s = .next t) : t.SameDecodeInputs s :=
  have ho := exec_sameOperands h
  { checkMark := by rw [ho.params]
    addr := by rw [ho.cfg]
    achk := by rw [ho.cfg]
    rlen := ho.rlen
    bytes := fun i _ => ho.rxBytes i }

theorem State.decodeFailed_decodeFailed (s : State) (e : Err) :
    (s.decodeFailed e).decodeFailed e = s.decodeFailed e := by
  have hst : ((s.decodeFailed e).decodeFailed e).status = (s.decodeFailed e).status := by
    rw [State.decodeFailed_status, State.decodeFailed_status, statusQV_pack]
  exact congrArg (fun st => { s.decodeFailed e with status := st }) hst

theorem State.decoded_decoded (s : State) : s.decoded.decoded = s.decoded := by
  have hst : s.decoded.decoded.status = s.decoded.status := by
    rw [State.decoded_status, State.decoded_status, statusQV_pack]
  exact congrArg (fun st => { s.decoded with status := st }) hst

/-- Settles O39: equal inputs fail the same check or none, and each result is a constant or one of the inputs; DECODE
leaves its inputs, and writing the same results again changes nothing. -/
theorem decodeIsAFunction : Obligations.DecodeIsAFunction := by
  refine ⟨fun s s' t t' ht ht' hmark haddr hachk hrlen hbytes => ?_, fun s t h => ?_⟩
  · have h : s.SameDecodeInputs s' := ⟨hmark, haddr, hachk, hrlen, hbytes⟩
    obtain ⟨hr', -⟩ := execDecode_next ht'
    obtain ⟨-, ⟨e, he, rfl⟩ | ⟨hnone, rfl⟩⟩ := execDecode_next ht
    · obtain rfl := Host.Outcome.next.inj
        (ht'.symm.trans (execDecode_of_error (h.decodeError.symm.trans he) hr'))
      exact ⟨(s.decodeFailed_err e).trans (s'.decodeFailed_err e).symm,
        (s.decodeFailed_rv e).trans (s'.decodeFailed_rv e).symm, rfl, rfl, rfl, rfl, rfl⟩
    · obtain rfl := Host.Outcome.next.inj
        (ht'.symm.trans (execDecode_of_none (h.decodeError.symm.trans hnone) hr'))
      have hroom : 7 + s.rxTlen ≤ s.rlen.toNat := (State.decoded_viewDescribes hnone).room
      exact ⟨s.decoded_err.trans s'.decoded_err.symm, s.decoded_rv.trans s'.decoded_rv.symm,
        h.bytes 6 (by omega), h.rxCtrl (by omega), h.bytes 2 (by omega), rfl,
        h.decoded_plen (by omega)⟩
  · have h' := execDecode_sameDecodeInputs h
    obtain ⟨hr, ⟨e, he, rfl⟩ | ⟨hnone, rfl⟩⟩ := execDecode_next h
    · exact (execDecode_of_error (h'.decodeError.trans he) hr).trans
        (congrArg _ (s.decodeFailed_decodeFailed e))
    · exact (execDecode_of_none (h'.decodeError.trans hnone) hr).trans (congrArg _ s.decoded_decoded)

end Sys2Proof.Machine
end

section
/-! DECODE of a built frame with one bit flipped (42_decode.md R155): the field the bit stands in names the check that
fails, and bit 2 of the control byte is the exception. -/

namespace Sys2Proof.Machine

/-! ### A sequence of bytes received with one bit flipped -/

/-- The first `n` bytes of RXBUF of `u` are those of TXBUF of `x`, with bit `k` of byte `j` flipped. -/
def State.ReceivesFlipped (u x : State) (n j k : Nat) : Prop :=
  ∀ i, i < n → u.byteAt .rxbuf i = if i = j then flipByte (x.byteAt .txbuf i) k else x.byteAt .txbuf i

section
variable {u x : State} {n j k : Nat} (h : u.ReceivesFlipped x n j k)
include h

theorem State.ReceivesFlipped.flipped_byte (hj : j < n) : u.byteAt .rxbuf j = flipByte (x.byteAt .txbuf j) k :=
  (h j hj).trans (if_pos rfl)

theorem State.ReceivesFlipped.other_byte {i : Nat} (hi : i < n) (hne : i ≠ j) :
    u.byteAt .rxbuf i = x.byteAt .txbuf i :=
  (h i hi).trans (if_neg hne)

theorem State.ReceivesFlipped.byte_ne (hj : j < n) (hk : k < 8) : u.byteAt .rxbuf j ≠ x.byteAt .txbuf j := by
  rw [h.flipped_byte hj]
  exact flipByte_ne _ hk

/-- A span beside the flipped bit arrives as it was sent. -/
theorem State.ReceivesFlipped.span_beside {lo m : Nat} (hm : lo + m ≤ n) (hj : j < lo ∨ lo + m ≤ j) :
    u.span .rxbuf lo m = x.span .txbuf lo m :=
  State.span_eq_span_iff.mpr fun i hi => h.other_byte (by omega) (by omega)

/-- A span around the flipped bit arrives with that bit flipped. -/
theorem State.ReceivesFlipped.span_around {lo m : Nat} (hm : lo + m ≤ n) (hlo : lo ≤ j) :
    u.span .rxbuf lo m = flipBit (x.span .txbuf lo m) (j - lo) k := by
  refine List.ext_getElem? fun i => ?_
  rw [flipBit, List.getElem?_modify, State.getElem?_span, State.getElem?_span]
  by_cases hi : i < m
  · have hpos : j - lo = i ↔ lo + i = j := by omega
    simp only [if_pos hi, h (lo + i) (by omega), hpos, Option.map_eq_map, Option.map_some]
  · simp only [if_neg hi, Option.map_eq_map, Option.map_none]

end

/-! ### The check that fails -/

theorem ctrlMode_flipByte (b : Byte) {k : Nat} (hk : k < 8) (h2 : k ≠ 2) : ctrlMode (flipByte b k) = ctrlMode b := by
  have hbit : ∀ c : Byte, ∀ i < 8, i ≠ 2 → ctrlMode (flipByte c i) = ctrlMode c := by decide +kernel
  exact hbit b k hk h2

/-- The shortest frame is a header and one byte of trailer. -/
theorem State.seven_lt_frameLength (s : State) : 7 < s.frameLength := by
  have ht := tlen_pos s.mode
  simp only [State.frameLength]
  omega

section
variable {u s : State} {j k : Nat} (h : u.ReceivesFlipped s.built s.frameLength j k)
include h

/-- A bit flipped in MARK, where it is checked, or in SOM. -/
theorem State.ReceivesFlipped.badMarker (hj : j < 2) (hk : k < 8) (hmark : j = 0 → u.params.checkMark = true) :
    u.BadMarker := by
  have hn := s.seven_lt_frameLength
  have hne := h.byte_ne (by omega) hk
  obtain rfl | rfl : j = 0 ∨ j = 1 := by omega
  · rw [s.built_carries.mark] at hne
    exact .inr (.inl ⟨hmark rfl, hne⟩)
  · rw [s.built_carries.som] at hne
    exact .inr (.inr hne)

variable (hr : u.rlen.toNat = s.frameLength)
include hr

theorem State.ReceivesFlipped.not_badMarker (hj : 2 ≤ j) : ¬ u.BadMarker := by
  have hn := s.seven_lt_frameLength
  rintro (hshort | ⟨-, hmark⟩ | hsom)
  · omega
  · exact hmark ((h.other_byte (by omega) (by omega)).trans s.built_carries.mark)
  · exact hsom ((h.other_byte (by omega) (by omega)).trans s.built_carries.som)

/-- A bit flipped in the length field declares another length. -/
theorem State.ReceivesFlipped.badLength (hj : j = 3 ∨ j = 4) (hk : k < 8) : u.BadLength := by
  have hlt : s.frameLength < 65536 := hr ▸ u.rlen.isLt
  have hn := s.seven_lt_frameLength
  have hne := h.byte_ne (by omega) hk
  refine .inr (.inl fun hlen => ?_)
  have hword : u.rxLen = s.built.wordAt .txbuf 3 :=
    BitVec.eq_of_toNat_eq (hlen.trans (hr ▸ (s.built_carries.length_toNat hlt).symm))
  obtain ⟨hlow, hhigh⟩ := littleEndian16_inj hword
  rcases hj with rfl | rfl
  · exact hne hlow
  · exact hne hhigh

variable (hctrl : ctrlMode u.rxCtrl = s.mode)
include hctrl

theorem State.ReceivesFlipped.not_badLength (h3 : j ≠ 3) (h4 : j ≠ 4) : ¬ u.BadLength := by
  have hlt : s.frameLength < 65536 := hr ▸ u.rlen.isLt
  have hn : s.frameLength = 7 + s.blen.toNat + tlen s.mode := rfl
  have hword : u.rxLen = s.built.wordAt .txbuf 3 :=
    congrArg₂ littleEndian16 (h.other_byte (by omega) h3.symm) (h.other_byte (by omega) h4.symm)
  rw [State.BadLength, hr, hword, s.built_carries.length_toNat hlt, State.rxTlen, hctrl]
  omega

/-- A bit flipped in the span or in the trailer, with the trailer's mode as it was sent. -/
theorem State.ReceivesFlipped.badTrailer (h1 : 1 ≤ j) (hj : j < s.frameLength) (hk : k < 8) : u.BadTrailer := by
  have hn : s.frameLength = 7 + s.blen.toNat + tlen s.mode := rfl
  have ht : u.rxTlen = tlen s.mode := congrArg tlen hctrl
  have hf := s.built_carries
  have hflip := singleBitFlipFailsTrailerCheck s.mode s.frameSpan (tbytes s.mode s.frameSpan)
  rw [State.BadTrailer, hctrl, State.rxSpan, State.rxTrailer, hr, ht,
    show s.frameLength - tlen s.mode = 7 + s.blen.toNat by omega,
    show 7 + s.blen.toNat - 1 = 6 + s.blen.toNat by omega]
  rcases Nat.lt_or_ge j (7 + s.blen.toNat) with hin | hbehind
  · rw [h.span_around (by omega) h1, h.span_beside (by omega) (.inl hin), hf.trailerSpan, hf.trailer]
    exact (hflip (j - 1) k (tok_iff.mpr rfl) hk).1 (by rw [State.length_frameSpan]; omega)
  · rw [h.span_beside (by omega) (.inr (by omega)), h.span_around (by omega) hbehind, hf.trailerSpan, hf.trailer]
    exact (hflip (j - (7 + s.blen.toNat)) k (tok_iff.mpr rfl) hk).2 (by rw [length_tbytes]; omega)

end

/-- The receiver reads the trailer's mode as it was sent, unless its own bit was flipped. -/
theorem State.ReceivesFlipped.ctrlMode_rxCtrl {u s : State} {j k : Nat}
    (h : u.ReceivesFlipped s.built s.frameLength j k) (hk : k < 8) (hexc : ¬ (j = 5 ∧ k = 2)) :
    ctrlMode u.rxCtrl = s.mode := by
  have hn : 5 < s.frameLength := lt_trans (by decide) s.seven_lt_frameLength
  have hsent : ctrlMode (s.built.byteAt .txbuf 5) = s.mode := by
    rw [s.built_carries.control, ctrlMode_controlByte]
  rw [State.rxCtrl, ← hsent]
  by_cases hj : j = 5
  · subst hj
    rw [h.flipped_byte hn, ctrlMode_flipByte _ hk (by tauto)]
  · rw [h.other_byte hn (Ne.symm hj)]

/-- The error of R155 for a bit flipped in byte `j` of a frame. -/
def flipError (j : Nat) : Err :=
  if j < 2 then .badSyncByte else if j = 3 ∨ j = 4 then .lengthMismatch else .integrityError

theorem State.ReceivesFlipped.decodeError {u s : State} {j k : Nat}
    (h : u.ReceivesFlipped s.built s.frameLength j k) (hr : u.rlen.toNat = s.frameLength) (hj : j < s.frameLength)
    (hk : k < 8) (hexc : ¬ (j = 5 ∧ k = 2)) (hmark : ¬ (j = 0 ∧ u.params.checkMark = false)) :
    u.decodeError = some (flipError j) := by
  rw [State.decodeError_eq, flipError]
  by_cases hm : j < 2
  · rw [if_pos (h.badMarker hm hk (by simpa using hmark)), if_pos hm]
  rw [if_neg (h.not_badMarker hr (Nat.not_lt.mp hm)), if_neg hm]
  by_cases hl : j = 3 ∨ j = 4
  · rw [if_pos (h.badLength hr hl hk), if_pos hl]
  have hctrl := h.ctrlMode_rxCtrl hk hexc
  obtain ⟨h3, h4⟩ := not_or.mp hl
  rw [if_neg (h.not_badLength hr hctrl h3 h4), if_neg hl, if_pos (h.badTrailer hr hctrl (by omega) hj hk)]

/-! ### The exception (42_decode.md R155) -/

/-- A command whose frame, once bit 2 of the control byte is flipped, ends in a checksum that happens to be right: code
0x26, no body, CRC-16. -/
def ambiguousCommand : State :=
  { State.reset with cfg := 0x065#9, code := 0x26#8, mode := 1, cap := 9 }

/-- A receiver of that frame with the bit flipped. -/
def ambiguousReceiver : State :=
  ({ State.reset with rlen := 9 }).storeBytes .rxbuf 0 (flipBit ambiguousCommand.frame 5 2)

theorem ambiguousCommand_buildable : ambiguousCommand.Buildable := ⟨by decide, by decide⟩

theorem ambiguousReceiver_receivesFlipped :
    ambiguousReceiver.ReceivesFlipped ambiguousCommand.built ambiguousCommand.built.olen.toNat 5 2 := by
  unfold State.ReceivesFlipped
  decide +kernel

theorem execDecode_ambiguousReceiver : execDecode ambiguousReceiver = .next ambiguousReceiver.decoded :=
  execDecode_of_none (by decide +kernel) (by decide +kernel)

/-- Settles O36: the flipped bit fails the check of its field and none before it; a CRC frame whose first CRC byte the
receiver takes for a body and whose second for a checksum is the exception. -/
theorem decodeRejectsOneFlippedBit : Obligations.DecodeRejectsOneFlippedBit := by
  refine ⟨fun s t u j k ht herr hrlen hfit hj hk hbytes hexc hmark => ?_, ambiguousCommand, ambiguousCommand.built,
    ambiguousReceiver, ambiguousReceiver.decoded, ?_⟩
  · obtain ⟨hb, rfl⟩ := execBuild_ok ht herr
    have holen := State.built_olen hb
    rw [holen] at hj hbytes
    have h : u.ReceivesFlipped s.built s.frameLength j k := hbytes
    refine ⟨_, execDecode_of_error (h.decodeError (hrlen ▸ holen) hj hk hexc hmark) hfit, u.decodeFailed_rv _, ?_⟩
    rw [u.decodeFailed_err, flipError]
    split_ifs <;> rfl
  · exact ⟨execBuild_of_buildable ambiguousCommand_buildable (by decide), State.built_err _, by decide +kernel,
      ambiguousReceiver_receivesFlipped, execDecode_ambiguousReceiver, State.decoded_err _,
      by decide +kernel, by decide +kernel, by decide +kernel⟩

end Sys2Proof.Machine
end

section
/-! The command queue, unit Q (43_companions.md R165 to R172): what each operation leaves when the unit is present, a
queue read told once for QPEEK and QDEQ, and the order in which a queue is consumed. -/

namespace Sys2Proof.Machine

/-! ### QENQ and QRST -/

section
variable {s : State} (hQ : s.params.hasQ = true)
include hQ

theorem execQenq_of_tooLarge (hl : s.params.maxBody < s.blen.toNat) :
    execQenq s = .next (s.setErr .payloadTooLarge) :=
  (State.whenPresent_of (i := .qenq) hQ _).trans (if_pos hl)

theorem execQenq_of_full (hl : s.blen.toNat ≤ s.params.maxBody) (hfull : s.queue.length = s.params.qCap) :
    execQenq s = .next (s.setErr .queueFull) :=
  (State.whenPresent_of (i := .qenq) hQ _).trans ((if_neg hl.not_gt).trans (if_pos hfull))

theorem execQenq_of_room (hl : s.blen.toNat ≤ s.params.maxBody) (hroom : s.queue.length ≠ s.params.qCap) :
    execQenq s = .next ((s.setQueue (s.queue ++ [s.command])).setErr .ok) :=
  (State.whenPresent_of (i := .qenq) hQ _).trans ((if_neg hl.not_gt).trans (if_neg hroom))

theorem execQrst_of_present : execQrst s = .next (((s.setQueue []).setQV false).setErr .ok) :=
  State.whenPresent_of (i := .qrst) hQ _

end

/-- A command's body holds the first BLEN bytes of CBUF. -/
theorem State.command_body (s : State) {i : Nat} (h : i < s.blen.toNat) :
    s.command.body[i]? = some (s.byteAt .cbuf i) := by
  show (s.span .cbuf 0 s.blen.toNat)[i]? = _
  rw [State.getElem?_span, if_pos h, Nat.zero_add]

/-- Settles O40: QENQ has three outcomes, and the entry it appends is `State.command`. -/
theorem qenqAppendsCommand : Obligations.QenqAppendsCommand := by
  refine fun s hQ => ⟨fun hl => ?_, fun hl hfull => ?_, fun hl hroom => ?_⟩
  · exact ⟨_, execQenq_of_tooLarge hQ hl, s.err_setErr _, s.setErr_sameFlags _, rfl⟩
  · exact ⟨_, execQenq_of_full hQ hl hfull, s.err_setErr _, s.setErr_sameFlags _, rfl⟩
  · have hcount (h : s.queue.length < 65535) :
        (countWord (s.queue ++ [s.command])).toNat = s.queue.length + 1 := by
      rw [toNat_countWord (by simp; omega)]
      simp
    exact ⟨_, s.command, execQenq_of_room hQ hl hroom, State.err_setErr _ _, rfl, rfl, s.length_body,
      fun i => s.command_body, hcount, State.setErr_sameFlags (s.setQueue _) _, rfl⟩

/-- Settles O43: an empty queue has the count 0. -/
theorem qrstEmptiesQueue : Obligations.QrstEmptiesQueue :=
  fun _ hQ => ⟨_, execQrst_of_present hQ, State.err_setErr _ _, by simp, by simp, rfl, rfl, rfl⟩

/-! ### A queue read -/

/-- The state a queue read of an empty queue ends in (43_companions.md R169). -/
def State.readEmpty (s : State) : State := (s.setQV false).setErr .ok

/-- The state a QPEEK ends in that has delivered `e`. -/
def State.peeked (s : State) (e : QEntry) : State := ((s.deliver e).setQV true).setErr .ok

/-- The state a QDEQ ends in that has delivered `e` and leaves the queue `rest`. -/
def State.dequeued (s : State) (e : QEntry) (rest : List QEntry) : State :=
  (((s.deliver e).setQueue rest).setQV true).setErr .ok

section
variable {s : State} (hQ : s.params.hasQ = true)
include hQ

theorem execQpeek_of_empty (hq : s.queue = []) : execQpeek s = .next s.readEmpty := by
  unfold execQpeek
  rw [State.whenPresent_of (i := .qpeek) hQ, hq]
  rfl

theorem execQdeq_of_empty (hq : s.queue = []) : execQdeq s = .next s.readEmpty := by
  unfold execQdeq
  rw [State.whenPresent_of (i := .qdeq) hQ, hq]
  rfl

variable {e : QEntry} {rest : List QEntry} (hq : s.queue = e :: rest) (hfit : e.body.length ≤ s.params.maxBody)
include hq hfit

theorem execQpeek_of_cons : execQpeek s = .next (s.peeked e) := by
  unfold execQpeek
  rw [State.whenPresent_of (i := .qpeek) hQ, hq]
  exact State.touchBelow_of_le (sp := .cbuf) hfit _

theorem execQdeq_of_cons : execQdeq s = .next (s.dequeued e rest) := by
  unfold execQdeq
  rw [State.whenPresent_of (i := .qdeq) hQ, hq]
  exact State.touchBelow_of_le (sp := .cbuf) hfit _

end

/-- What a queue read of an empty queue says to the host (43_companions.md R169). -/
theorem State.readEmpty_spec (s : State) :
    s.readEmpty.err = 0 ∧ statusQV s.readEmpty.status = false ∧
      statusRV s.readEmpty.status = statusRV s.status ∧ s.readEmpty = { s with status := s.readEmpty.status } :=
  ⟨State.err_setErr _ _, by simp [State.readEmpty], by simp [State.readEmpty], rfl⟩

/-- `t` is what a queue read in state `s` leaves that has delivered `e` (43_companions.md R168), the queue apart. -/
structure State.Delivered (s : State) (e : QEntry) (t : State) : Prop where
  err : t.err = 0
  qv : statusQV t.status = true
  rv : statusRV t.status = statusRV s.status
  code : t.code = e.code
  blen : t.blen = BitVec.ofNat 16 e.body.length
  body : ∀ i, i < e.body.length → e.body[i]? = some (t.byteAt .cbuf i)
  behind : s.SameOutside t .cbuf 0 e.body.length

theorem State.peeked_delivered (s : State) (e : QEntry) : s.Delivered e (s.peeked e) where
  err := State.err_setErr _ _
  qv := by simp [State.peeked]
  rv := by simp [State.peeked]
  code := rfl
  blen := rfl
  body _ := s.deliver_body e
  behind _ hi := s.deliver_behind e (by omega)

/-- Removing the head changes nothing of what was delivered. -/
theorem State.dequeued_delivered (s : State) (e : QEntry) (rest : List QEntry) :
    s.Delivered e (s.dequeued e rest) :=
  have h := s.peeked_delivered e
  ⟨h.err, h.qv, h.rv, h.code, h.blen, h.body, h.behind⟩

/-- BLEN holds the length of any body that 16 bits can count. -/
theorem State.Delivered.blen_toNat {s t : State} {e : QEntry} (h : s.Delivered e t) (hlen : e.body.length < 65536) :
    t.blen.toNat = e.body.length := by
  rw [h.blen, BitVec.toNat_ofNat, Nat.mod_eq_of_lt hlen]

/-- Settles O41: an empty queue ends in `State.readEmpty`, a head entry is delivered (`State.peeked_delivered`). -/
theorem qpeekDeliversHead : Obligations.QpeekDeliversHead := by
  refine fun s hQ => ⟨fun hq => ⟨_, execQpeek_of_empty hQ hq, s.readEmpty_spec⟩, fun e rest hq hfit hmax => ?_⟩
  have h := s.peeked_delivered e
  exact ⟨_, execQpeek_of_cons hQ hq hfit, h.err, h.qv, h.code, h.blen_toNat (by omega), h.body, h.behind, h.rv, rfl⟩

/-- Settles O42: as O41, with the queue that stood behind the head. -/
theorem qdeqRemovesHead : Obligations.QdeqRemovesHead := by
  refine fun s hQ => ⟨fun hq => ⟨_, execQdeq_of_empty hQ hq, s.readEmpty_spec⟩, fun e rest hq hfit hmax => ?_⟩
  have h := s.dequeued_delivered e rest
  exact ⟨_, execQdeq_of_cons hQ hq hfit, h.err, h.qv, h.code, h.blen_toNat (by omega), h.body, h.behind, rfl,
    toNat_countWord, h.rv, rfl⟩

/-! ### Peeking again (43_companions.md R172 (b)) -/

/-- Delivering an entry where it has just been delivered leaves the command, STATUS and CBUF as they are. -/
theorem State.Delivered.again {s t u : State} {e : QEntry} (h : s.Delivered e t) (h' : t.Delivered e u) :
    u.code = t.code ∧ u.blen = t.blen ∧ u.status = t.status ∧ t.SameBytes u .cbuf := by
  refine ⟨h'.code.trans h.code.symm, h'.blen.trans h.blen.symm, ?_, fun i => ?_⟩
  · exact status_ext (BitVec.eq_of_toNat_eq (h'.err.trans h.err.symm)) h'.rv (h'.qv.trans h.qv.symm)
  · rcases Nat.lt_or_ge i e.body.length with hi | hi
    · exact Option.some.inj ((h'.body i hi).symm.trans (h.body i hi))
    · exact h'.behind i (by omega)

/-- Settles O45: the queue stays as it was, so the second peek takes the same way as the first. -/
theorem peekIsIdempotent : Obligations.PeekIsIdempotent := by
  intro s t u ht hu
  rcases execQpeek_next ht with ⟨hQ, rfl⟩ | ⟨hQ, hq, rfl⟩ | ⟨e, rest, hQ, hq, hfit, rfl⟩
  · have hpeek : exec .qpeek (s.setErr .illegalOp) = _ := exec_absentUnit (i := .qpeek) hQ
    obtain rfl := Host.Outcome.next.inj (hpeek.symm.trans hu)
    exact ⟨rfl, rfl, by simp, fun _ => rfl, rfl, rfl⟩
  · have hpeek : exec .qpeek s.readEmpty = _ := execQpeek_of_empty hQ hq
    obtain rfl := Host.Outcome.next.inj (hpeek.symm.trans hu)
    exact ⟨rfl, rfl, by simp [State.readEmpty], fun _ => rfl, rfl, rfl⟩
  · have hpeek : exec .qpeek (s.peeked e) = _ := execQpeek_of_cons (s := s.peeked e) hQ hq hfit
    obtain rfl := Host.Outcome.next.inj (hpeek.symm.trans hu)
    obtain ⟨hcode, hblen, hstatus, hcbuf⟩ := (s.peeked_delivered e).again ((s.peeked e).peeked_delivered e)
    exact ⟨hcode, hblen, hstatus, hcbuf, rfl, rfl⟩

/-! ### Consuming a queue (43_companions.md R172 (a)) -/

/-- The command that a delivered entry leaves in CODE, BLEN and CBUF is the entry. -/
theorem State.Delivered.command_eq {s t : State} {e : QEntry} (h : s.Delivered e t) (hlen : e.body.length < 65536) :
    t.command = e := by
  have hblen := h.blen_toNat hlen
  have hbody : t.body = e.body := by
    refine List.ext_getElem? fun i => ?_
    rcases Nat.lt_or_ge i e.body.length with hi | hi
    · exact (t.command_body (hblen ▸ hi)).trans (h.body i hi).symm
    · rw [List.getElem?_eq_none hi, List.getElem?_eq_none (t.length_body.trans hblen ▸ hi)]
  rw [State.command, h.code, hbody]

/-- One QDEQ of a drain. -/
theorem State.drain_succ {s t : State} (h : exec .qdeq s = .next t) (n : Nat) :
    State.drain (n + 1) s = t.command :: State.drain n t := by
  rw [State.drain, h]

/-- Settles O46, by induction on the queue: each QDEQ delivers the head and leaves the rest. -/
theorem queueDrainsInOrder : Obligations.QueueDrainsInOrder := by
  intro s hQ hmax hfit
  induction hq : s.queue generalizing s with
  | nil => rfl
  | cons e rest ih =>
    have hfits : ∀ x ∈ e :: rest, x.body.length ≤ s.params.maxBody := hq ▸ hfit
    obtain ⟨hhead, htail⟩ := List.forall_mem_cons.mp hfits
    rw [List.length_cons, State.drain_succ (execQdeq_of_cons hQ hq hhead),
      (s.dequeued_delivered e rest).command_eq (by omega)]
    exact congrArg (e :: ·) (ih (s.dequeued e rest) hQ hmax htail rfl)

/-! ### The other operations (43_companions.md R172 (e)) -/

/-- Settles O52: the queue and QCOUNT stand in the frames of QENQ, QDEQ and QRST only. -/
theorem onlyQueueWritersChangeQueue : Obligations.OnlyQueueWritersChangeQueue := by
  intro i s t h henq hdeq hrst
  rw [exec_frame h]
  cases i with
  | qenq => exact absurd rfl henq
  | qdeq => exact absurd rfl hdeq
  | qrst => exact absurd rfl hrst
  | _ => exact ⟨rfl, rfl⟩

end Sys2Proof.Machine
end

section
/-! The reply interpreter, unit R (43_companions.md R174 to R182): the cases of R178, and what RPLY leaves alone. -/

namespace Sys2Proof.Machine

/-! ### Without a validated reply -/

/-- Settles O48: RV is tested before the reply is looked at. -/
theorem rplyNeedsValidatedReply : Obligations.RplyNeedsValidatedReply := by
  intro s hR hv
  have hrply : exec .rply s = .next ((s.setReply 0 0).setErr .illegalOp) :=
    (State.whenPresent_of (i := .rply) hR _).trans (if_neg (ne_true_of_eq_false hv))
  exact ⟨_, hrply, State.err_setErr _ _, rfl, rfl, State.setErr_sameFlags (s.setReply 0 0) _, rfl⟩

/-! ### A validated reply -/

theorem execRply_of_valid {s : State} (hR : s.params.hasR = true) (hv : statusRV s.status = true)
    (hfit : s.poff.toNat + s.plen.toNat ≤ s.params.rxCap) : execRply s = s.interpret := by
  unfold execRply
  rw [State.whenPresent_of (i := .rply) hR, if_pos hv]
  exact State.touchBelow_of_le (sp := .rxbuf) hfit _

/-- The codes of a legal configuration with unit R differ (00_scope.md R6). -/
theorem Params.codes_ne {p : Params} (hl : p.legal = true) (hR : p.hasR = true) :
    p.codeAck ≠ p.codeNak ∧ p.codeAck ≠ p.codePdid ∧ p.codeNak ≠ p.codePdid := by
  simp only [Params.legal, Params.legalCodes, hR, Bool.and_eq_true, Bool.or_eq_true, bne_iff_ne] at hl
  simpa [and_assoc] using hl.2

section
variable {s : State}

theorem State.interpret_pdid_short (hc : s.rcode = s.params.codePdid) (hlen : s.plen.toNat < 12) :
    s.interpret = .next ((s.setReply 0 0).setErr .shortPayload) :=
  (if_pos hc).trans (if_pos hlen)

theorem State.interpret_pdid (hc : s.rcode = s.params.codePdid) (hlen : 12 ≤ s.plen.toNat) :
    s.interpret = .next ((s.setIdentity.setReply 3 0).setErr .ok) :=
  (if_pos hc).trans (if_neg hlen.not_gt)

variable (hpdid : s.rcode ≠ s.params.codePdid)
include hpdid

theorem State.interpret_nak_short (hc : s.rcode = s.params.codeNak) (hlen : s.plen.toNat = 0) :
    s.interpret = .next ((s.setReply 0 0).setErr .shortPayload) :=
  (if_neg hpdid).trans ((if_pos hc).trans (if_pos (by omega)))

theorem State.interpret_nak (hc : s.rcode = s.params.codeNak) (hlen : 1 ≤ s.plen.toNat) :
    s.interpret = .next ((s.setReply 2 (s.payloadByte 0)).setErr .ok) :=
  (if_neg hpdid).trans ((if_pos hc).trans (if_neg hlen.not_gt))

theorem State.interpret_ack (hnak : s.rcode ≠ s.params.codeNak) (hc : s.rcode = s.params.codeAck) :
    s.interpret = .next ((s.setReply 1 0).setErr .ok) :=
  (if_neg hpdid).trans ((if_neg hnak).trans (if_pos hc))

theorem State.interpret_other (hnak : s.rcode ≠ s.params.codeNak) (hack : s.rcode ≠ s.params.codeAck) :
    s.interpret = .next ((s.setReply 0 0).setErr .ok) :=
  (if_neg hpdid).trans ((if_neg hnak).trans (if_neg hack))

end

/-- A byte string with `y` in its low bits, as a number. -/
theorem toNat_append_low {w v : Nat} (x : BitVec w) (y : BitVec v) : (x ++ y).toNat = 2 ^ v * x.toNat + y.toNat := by
  rw [BitVec.toNat_append, ← Nat.shiftLeft_add_eq_or_of_lt y.isLt, Nat.shiftLeft_eq, Nat.mul_comm]

/-- The identity record as numbers: vendor and serial little-endian, the firmware triple most significant byte first
(43_companions.md R177, R180). -/
theorem State.setIdentity_toNat (s : State) {p : Nat → Nat} (hp : ∀ k, p k = (s.payloadByte k).toNat) :
    s.setIdentity.idVendor.toNat = p 0 + 256 * p 1 + 65536 * p 2 ∧ s.setIdentity.idModel.toNat = p 3 ∧
      s.setIdentity.idVersion.toNat = p 4 ∧
      s.setIdentity.idSerial.toNat = p 5 + 256 * p 6 + 65536 * p 7 + 16777216 * p 8 ∧
      s.setIdentity.idFw.toNat = 65536 * p 9 + 256 * p 10 + p 11 := by
  refine ⟨?_, (hp 3).symm, (hp 4).symm, ?_, ?_⟩ <;> simp only [State.setIdentity, toNat_append_low, hp] <;> omega

/-- Settles O47: each case is a branch of `State.interpret`, the three codes being distinct. -/
theorem rplyInterpretsReply : Obligations.RplyInterpretsReply := by
  intro s p hp hR hlegal hv hfit
  obtain ⟨hack_nak, hack_pdid, hnak_pdid⟩ := Params.codes_ne hlegal hR
  have hrply : exec .rply s = s.interpret := execRply_of_valid hR hv hfit
  rw [hrply]
  refine ⟨fun hc hlen => ?_, fun hc hlen => ?_, fun hc hlen => ?_, fun hc hlen => ?_, fun hc => ?_,
    fun hpdid hnak hack => ?_⟩
  · exact ⟨_, State.interpret_pdid hc hlen, State.err_setErr _ _, rfl, rfl, s.setIdentity_toNat hp⟩
  · exact ⟨_, State.interpret_pdid_short hc hlen, State.err_setErr _ _, rfl, rfl⟩
  · exact ⟨_, State.interpret_nak (hc ▸ hnak_pdid) hc hlen, State.err_setErr _ _, rfl, (hp 0).symm⟩
  · exact ⟨_, State.interpret_nak_short (hc ▸ hnak_pdid) hc hlen, State.err_setErr _ _, rfl, rfl⟩
  · exact ⟨_, State.interpret_ack (hc ▸ hack_pdid) (hc ▸ hack_nak) hc, State.err_setErr _ _, rfl, rfl⟩
  · exact ⟨_, State.interpret_other hpdid hnak hack, State.err_setErr _ _, rfl, rfl⟩

/-! ### The frame (43_companions.md R179) -/

/-- The identity record is the same in `t` as in `s`. -/
def State.SameIdentity (s t : State) : Prop :=
  t.idVendor = s.idVendor ∧ t.idModel = s.idModel ∧ t.idVersion = s.idVersion ∧ t.idSerial = s.idSerial ∧
    t.idFw = s.idFw

theorem State.sameIdentity_setReply_setErr (s : State) (k : BitVec 2) (x : BitVec 8) (e : Err) :
    s.SameIdentity ((s.setReply k x).setErr e) := ⟨rfl, rfl, rfl, rfl, rfl⟩

/-- RPLY keeps the identity record, or ends with ERR 0 and RKIND 3. -/
theorem execRply_identity {s t : State} (h : execRply s = .next t) :
    s.SameIdentity t ∨ (t.err = 0 ∧ t.rkind = 3) := by
  rcases execRply_next h with ⟨-, rfl⟩ | ⟨-, -, rfl⟩ | ⟨-, -, -, hi⟩
  · exact .inl ⟨rfl, rfl, rfl, rfl, rfl⟩
  · exact .inl (s.sameIdentity_setReply_setErr _ _ _)
  · rcases State.interpret_next hi with ⟨-, -, rfl⟩ | ⟨-, -, rfl⟩ | ⟨-, -, -, rfl⟩ | ⟨-, -, -, rfl⟩ |
      ⟨-, -, -, rfl⟩ | ⟨-, -, -, rfl⟩
    · exact .inl (s.sameIdentity_setReply_setErr _ _ _)
    · exact .inr ⟨State.err_setErr _ _, rfl⟩
    all_goals exact .inl (s.sameIdentity_setReply_setErr _ _ _)

/-- Settles O49: registers and flags are read off RPLY's frame, and of its outcomes the identification alone writes the
record. -/
theorem rplyFrame : Obligations.RplyFrame := by
  refine fun s t h => ⟨exec_sameFlags h nofun nofun nofun nofun, exec_frame h, fun hno => ?_⟩
  rcases execRply_identity h with hsame | ⟨herr, hkind⟩
  · exact hsame
  · exact absurd herr (hno.resolve_right (not_not_intro hkind))

end Sys2Proof.Machine
end

section
/-! Errors are not sticky (60_exceptions.md R195). No condition of an operation reads STATUS.ERR, a write to RV or QV leaves
ERR as it is, and the end of an operation overwrites it. -/

namespace Sys2Proof.Machine

/-- The state with another code in STATUS.ERR, RV and QV unchanged. -/
def State.withErr (s : State) (e : BitVec 4) : State :=
  { s with status := packStatus e (statusRV s.status) (statusQV s.status) }

/-! ### States that differ in STATUS.ERR alone -/

section
variable {s t : State} {e : BitVec 4}

@[simp] theorem State.withErr_queue : (s.withErr e).queue = s.queue := rfl

@[simp] theorem State.withErr_rv : statusRV (s.withErr e).status = statusRV s.status := statusRV_pack _ _ _

@[simp] theorem State.withErr_qv : statusQV (s.withErr e).status = statusQV s.status := statusQV_pack _ _ _

/-- The end of an operation overwrites the code it finds. -/
@[simp] theorem State.setErr_withErr {x : Err} : (s.withErr e).setErr x = s.setErr x := by
  simp only [State.setErr, State.withErr_rv, State.withErr_qv]
  rfl

theorem State.raise_of_withErr {x : Err} (h : t = s.withErr e) : t.raise x = s.raise x := by
  rw [h, State.raise_eq, State.raise_eq, State.setErr_withErr]

theorem State.done_of_withErr (h : t = s.withErr e) : t.done = s.done := State.raise_of_withErr h

theorem State.setRV_of_withErr {b : Bool} (h : t = s.withErr e) : t.setRV b = (s.setRV b).withErr e := by
  simp [h, State.setRV, State.withErr]

theorem State.setQV_of_withErr {b : Bool} (h : t = s.withErr e) : t.setQV b = (s.setQV b).withErr e := by
  simp [h, State.setQV, State.withErr]

variable {k k' : Host.Outcome State Fault Refusal}

theorem State.touchBelow_withErr {sp : Space} {n : Nat} (h : k = k') :
    (s.withErr e).touchBelow sp n k = s.touchBelow sp n k' := by
  rw [h]
  cases sp <;> rfl

theorem State.whenPresent_withErr {i : Instr} (h : k = k') : (s.withErr e).whenPresent i k = s.whenPresent i k' :=
  if_congr Iff.rfl h (State.raise_of_withErr rfl)

end

/-! ### The meanings -/

section
variable (s : State) (e : BitVec 4)

theorem State.generateTrailer_withErr (m : BitVec 1) : (s.withErr e).generateTrailer m = s.generateTrailer m :=
  if_congr Iff.rfl (State.raise_of_withErr rfl) (State.done_of_withErr rfl)

theorem State.checkTrailer_withErr (m : BitVec 1) : (s.withErr e).checkTrailer m = s.checkTrailer m :=
  if_congr Iff.rfl (State.raise_of_withErr rfl) <| State.touchBelow_withErr <|
    if_congr Iff.rfl (State.done_of_withErr rfl) (State.raise_of_withErr rfl)

theorem execBuild_withErr : execBuild (s.withErr e) = execBuild s :=
  if_congr Iff.rfl (State.touchBelow_withErr (State.raise_of_withErr rfl))
    (State.touchBelow_withErr (State.done_of_withErr rfl))

theorem State.decodeError_withErr : (s.withErr e).decodeError = s.decodeError := rfl

theorem State.decodeFail_withErr (x : Err) : (s.withErr e).decodeFail x = s.decodeFail x :=
  State.raise_of_withErr (State.setRV_of_withErr rfl)

theorem State.decodeSucceed_withErr : (s.withErr e).decodeSucceed = s.decodeSucceed :=
  State.done_of_withErr (State.setRV_of_withErr rfl)

theorem execDecode_withErr : execDecode (s.withErr e) = execDecode s := by
  refine State.touchBelow_withErr ?_
  rw [State.decodeError_withErr]
  cases s.decodeError with
  | none => exact s.decodeSucceed_withErr e
  | some x => exact s.decodeFail_withErr e x

theorem execQenq_withErr : execQenq (s.withErr e) = execQenq s :=
  State.whenPresent_withErr <| if_congr Iff.rfl (State.raise_of_withErr rfl) <|
    if_congr Iff.rfl (State.raise_of_withErr rfl) (State.done_of_withErr rfl)

theorem execQpeek_withErr : execQpeek (s.withErr e) = execQpeek s := by
  refine State.whenPresent_withErr ?_
  rw [State.withErr_queue]
  cases s.queue with
  | nil => exact State.done_of_withErr (State.setQV_of_withErr rfl)
  | cons q rest => exact State.touchBelow_withErr (State.done_of_withErr (State.setQV_of_withErr rfl))

theorem execQdeq_withErr : execQdeq (s.withErr e) = execQdeq s := by
  refine State.whenPresent_withErr ?_
  rw [State.withErr_queue]
  cases s.queue with
  | nil => exact State.done_of_withErr (State.setQV_of_withErr rfl)
  | cons q rest => exact State.touchBelow_withErr (State.done_of_withErr (State.setQV_of_withErr rfl))

theorem execQrst_withErr : execQrst (s.withErr e) = execQrst s :=
  State.whenPresent_withErr (State.done_of_withErr (State.setQV_of_withErr rfl))

theorem State.replyFail_withErr (x : Err) : (s.withErr e).replyFail x = s.replyFail x :=
  State.raise_of_withErr rfl

theorem State.interpret_withErr : (s.withErr e).interpret = s.interpret :=
  if_congr Iff.rfl (if_congr Iff.rfl (s.replyFail_withErr e _) (State.done_of_withErr rfl)) <|
  if_congr Iff.rfl (if_congr Iff.rfl (s.replyFail_withErr e _) (State.done_of_withErr rfl)) <|
  if_congr Iff.rfl (State.done_of_withErr rfl) (State.done_of_withErr rfl)

/-- RPLY reads RV, which does not depend on ERR. -/
theorem execRply_withErr : execRply (s.withErr e) = execRply s :=
  State.whenPresent_withErr <| if_congr (by rw [State.withErr_rv])
    (State.touchBelow_withErr (s.interpret_withErr e)) (s.replyFail_withErr e _)

end

/-- Settles O53: the meaning of every operation is the same for any code in STATUS.ERR. -/
theorem earlierErrorHasNoInfluence : Obligations.EarlierErrorHasNoInfluence := by
  intro i s e
  cases i with
  | cksum8Gen => exact s.generateTrailer_withErr e 0
  | cksum8Chk => exact s.checkTrailer_withErr e 0
  | crc16Gen => exact s.generateTrailer_withErr e 1
  | crc16Chk => exact s.checkTrailer_withErr e 1
  | build => exact execBuild_withErr s e
  | decode => exact execDecode_withErr s e
  | qenq => exact execQenq_withErr s e
  | qpeek => exact execQpeek_withErr s e
  | qdeq => exact execQdeq_withErr s e
  | qrst => exact execQrst_withErr s e
  | rply => exact execRply_withErr s e

end Sys2Proof.Machine
end

section
/-! Reset and the end of a run: what a reset leaves (70_reset_and_hazards.md R215, R216), the first operations after it
(R217), and the host's finite script running to its end (R228, R229). -/

namespace Sys2Proof.Machine

/-! ### The reset step -/

/-- Every register is 0 after a reset, whatever the host's lists and the counters are. -/
theorem State.resetBlock_registersZero (s : State) : s.resetBlock.RegistersZero := (resetClearsEverything s.params).1

/-- Settles O19: the step is the access `State.resetBlock`. -/
theorem resetEventResets : Obligations.ResetEventResets := by
  intro s rest hl hp
  have hregs := (s.withPending rest).resetBlock_registersZero
  refine ⟨_, step_access hl hp rfl, hregs, State.readReg_of_registersZero hregs, rfl, fun sp i => ?_, rfl, rfl, rfl⟩
  show Memory.lookup ((s.withPending rest).resetBlock.mem sp) i = none
  rw [State.resetBlock_mem]
  rfl

/-! ### The first operations -/

/-- TXBUF of a legal configuration has room for either trailer (00_scope.md R6). -/
theorem Params.tlen_le_txCap {p : Params} (h : p.legal = true) (m : BitVec 1) : tlen m ≤ p.txCap := by
  have hm := tlen_le m
  simp only [Params.legal, Params.legalSizes, Bool.and_eq_true, decide_eq_true_eq] at h
  omega

section
variable (s : State)

/-- With CAP 0 no frame fits, and an empty body is never too large. -/
theorem execBuild_of_noCapacity (hb : s.blen = 0) (hc : s.cap = 0) :
    ∃ t, execBuild s = .next t ∧ t.err = 1 := by
  have hcap : s.cap.toNat = 0 := by rw [hc]; rfl
  have hblen : s.blen.toNat = 0 := by rw [hb]; rfl
  have hnot : ¬ s.Buildable := fun ⟨_, hfit⟩ => by
    unfold State.frameLength at hfit
    omega
  refine ⟨_, execBuild_of_not hnot (by omega), ?_⟩
  rw [State.buildFailed_err, State.buildError_of_tooSmall (by omega)]
  rfl

/-- With RLEN 0 there is no start marker. -/
theorem execDecode_of_nothingReceived (hr : s.rlen = 0) : ∃ t, execDecode s = .next t ∧ t.err = 3 := by
  have hrlen : s.rlen.toNat = 0 := by rw [hr]; rfl
  obtain ⟨t, ht, herr⟩ := execDecode_err (s := s) (by omega)
  refine ⟨t, ht, ?_⟩
  rw [herr, State.decodeError_eq, if_pos (.inl (by omega))]
  rfl

/-- With RLEN 0 there is no trailer to compare. -/
theorem State.checkTrailer_of_nothingReceived (hr : s.rlen = 0) (m : BitVec 1) :
    ∃ t, s.checkTrailer m = .next t ∧ t.err = 4 := by
  have hrlen : s.rlen.toNat = 0 := by rw [hr]; rfl
  have hshort : s.rlen.toNat < s.spanEnd + tlen m := by
    have hm := tlen_pos m
    omega
  obtain ⟨t, ht, herr, -⟩ := State.checkTrailer_short_spec hshort
  exact ⟨t, ht, herr⟩

/-- An empty span at index 0 puts the trailer of no bytes at the start of TXBUF. -/
theorem State.generateTrailer_of_emptySpan (hl : s.params.legal = true) (hoff : s.soff = 0) (hlen : s.slen = 0)
    (m : BitVec 1) :
    ∃ t, s.generateTrailer m = .next t ∧ t.err = 0 ∧ t.span .txbuf 0 (tlen m) = tbytes m [] ∧
      t.trl = tvalue m [] := by
  have hend : s.spanEnd = 0 := by rw [State.spanEnd, hoff, hlen]; rfl
  have hspan : s.span .txbuf s.soff.toNat s.slen.toNat = [] := by rw [hlen]; rfl
  have hfit : s.spanEnd + tlen m ≤ s.params.txCap := by rw [hend, Nat.zero_add]; exact Params.tlen_le_txCap hl m
  have hwire := s.generated_trailer m
  rw [hend, hspan] at hwire
  exact ⟨_, State.generateTrailer_fits hfit, State.err_setErr _ _, hwire, congrArg (tvalue m) hspan⟩

end

/-- Settles O20: with CAP 0 BUILD has no room, with RLEN 0 nothing is received, the two trailers are those of no bytes,
the queue is empty, and RV is 0. -/
theorem firstOperationsAfterReset : Obligations.FirstOperationsAfterReset := by
  intro p c x r s hl hs
  obtain ⟨rfl, hblen, hcap, hrlen, hsoff, hslen, hqueue, hrv⟩ :
      s.params = p ∧ s.blen = 0 ∧ s.cap = 0 ∧ s.rlen = 0 ∧ s.soff = 0 ∧ s.slen = 0 ∧ s.queue = [] ∧
        statusRV s.status = false := by
    rw [hs]
    exact ⟨rfl, rfl, rfl, rfl, rfl, rfl, rfl, statusRV_zero⟩
  obtain ⟨hempty, hqv, -⟩ := s.readEmpty_spec
  refine ⟨execBuild_of_noCapacity s hblen hcap, execDecode_of_nothingReceived s hrlen,
    s.checkTrailer_of_nothingReceived hrlen 0, s.checkTrailer_of_nothingReceived hrlen 1, ?_, ?_,
    fun hQ => ⟨⟨_, execQpeek_of_empty hQ hqueue, hempty, hqv⟩, ⟨_, execQdeq_of_empty hQ hqueue, hempty, hqv⟩⟩,
    fun hR => ?_⟩
  · obtain ⟨t, ht, herr, hwire, htrl⟩ := s.generateTrailer_of_emptySpan hl hsoff hslen 0
    exact ⟨t, ht, herr, (List.cons.inj hwire).1, htrl⟩
  · obtain ⟨t, ht, herr, hwire, htrl⟩ := s.generateTrailer_of_emptySpan hl hsoff hslen 1
    obtain ⟨hlow, hrest⟩ := List.cons.inj hwire
    exact ⟨t, ht, herr, hlow, (List.cons.inj hrest).1, htrl⟩
  · obtain ⟨t, ht, herr, -⟩ := rplyNeedsValidatedReply s hR hrv
    exact ⟨t, ht, herr⟩

/-! ### The script as a list of transactions -/

/-- An event that is not a script line: one of the host's transactions, a write to CMD included, or a reset. -/
def Event.IsTransaction (e : Event) : Prop := ∀ l, e ≠ .line l

theorem fillEvents_isTransaction (sp : Space) (i : Nat) (bs : List Byte) :
    ∀ e ∈ fillEvents sp i bs, e.IsTransaction := by
  induction bs generalizing i with
  | nil => exact fun _ he => absurd he List.not_mem_nil
  | cons b bs ih => exact List.forall_mem_cons.mpr ⟨nofun, ih (i + 1)⟩

/-- A line expands to transactions, never to another line. -/
theorem ScriptLine.expand_isTransaction (s : State) (l : ScriptLine) : ∀ e ∈ l.expand s, e.IsTransaction := by
  have hwrite (r : Reg) (v : HostWord) : ∀ e ∈ [writeEvent r v], e.IsTransaction :=
    List.forall_mem_singleton.mpr nofun
  cases l with
  | fill sp i bs => exact fillEvents_isTransaction sp i bs
  | body bs => exact List.forall_mem_append.mpr ⟨fillEvents_isTransaction .cbuf 0 bs, hwrite .blen _⟩
  | recv bs => exact List.forall_mem_append.mpr ⟨fillEvents_isTransaction .rxbuf 0 bs, hwrite .rlen _⟩
  | loop =>
    exact List.forall_mem_append.mpr ⟨fun e he => (loopCopies_isAccess s s.olen.toNat e he).2, hwrite .rlen _⟩
  | _ => simp [ScriptLine.expand, Event.IsTransaction, writeEvent, opEvent]

/-- What an event puts at the head of the host's list: a line its transactions, any other event nothing. -/
def Event.expansion (s : State) : Event → List Event
  | .line l => l.expand s
  | _ => []

theorem Event.expansion_of_isTransaction {e : Event} (he : e.IsTransaction) (s : State) : e.expansion s = [] := by
  cases e with
  | line l => exact absurd rfl (he l)
  | _ => rfl

theorem Event.expansion_isTransaction (e : Event) (s : State) : ∀ e' ∈ e.expansion s, e'.IsTransaction := by
  cases e with
  | line l => exact l.expand_isTransaction s
  | _ => exact fun _ he => absurd he List.not_mem_nil

/-- A write to CMD is a transaction. -/
theorem Event.isTransaction_of_command {e : Event} {op : Byte} (hc : e.command = some op) : e.IsTransaction := by
  rintro l rfl
  cases hc

theorem State.access_pending_expansion (s : State) (e : Event) : (s.access e).pending = e.expansion s ++ s.pending := by
  rw [State.access_pending]
  cases e <;> rfl

/-! ### Runs of transactions -/

/-- In a state of a run, the step takes the head off the host's list; a line puts its transactions in its place. -/
theorem State.Inv.step_cons {s : State} (h : s.Inv) {e : Event} {rest : List Event} (hp : s.pending = e :: rest) :
    ∃ t, step s = .next t ∧ t.Inv ∧ t.pending = e.expansion (s.withPending rest) ++ rest := by
  obtain ⟨t, ht⟩ := h.step_has_next
  refine ⟨t, ht, stepKeepsInvariant s t h ht, ?_⟩
  obtain ⟨-, ⟨hnil, -⟩ | ⟨e', rest', hp', hstep⟩⟩ := step_next ht
  · exact absurd (hp.symm.trans hnil) (List.cons_ne_nil e rest)
  · obtain ⟨rfl, rfl⟩ := List.cons.inj (hp'.symm.trans hp)
    rcases hstep with ⟨-, rfl⟩ | ⟨op, i, hc, -, hexec⟩ | ⟨op, x, hc, -, rfl⟩
    · exact State.access_pending_expansion _ _
    · rw [(exec_sameOperands hexec).pending, Event.expansion_of_isTransaction (Event.isTransaction_of_command hc)]
      rfl
    · rw [Event.expansion_of_isTransaction (Event.isTransaction_of_command hc)]
      rfl

/-- Transactions at the head of the host's list take one step each, the operations they start included. -/
theorem State.Inv.run_transactions {es : List Event} (hes : ∀ e ∈ es, e.IsTransaction) {s : State} (h : s.Inv)
    {rest : List Event} (hp : s.pending = es ++ rest) :
    ∃ t, (∀ k, Host.Core.run Sys2Proof.core (es.length + k) s = Host.Core.run Sys2Proof.core k t) ∧ t.Inv ∧
      t.pending = rest := by
  induction es generalizing s with
  | nil => exact ⟨s, fun k => congrArg (Host.Core.run Sys2Proof.core · s) (Nat.zero_add k), h, hp⟩
  | cons e es ih =>
    obtain ⟨he, hes⟩ := List.forall_mem_cons.mp hes
    obtain ⟨t, ht, htInv, htp⟩ := h.step_cons hp
    rw [Event.expansion_of_isTransaction he] at htp
    obtain ⟨u, hu, huInv, hup⟩ := ih hes htInv htp
    refine ⟨u, fun k => ?_, huInv, hup⟩
    rw [List.length_cons, Nat.add_right_comm, core_run_succ ht, hu]

/-- A list with script lines in it ends too: each line is reached once, and only transactions take its place. -/
theorem State.Inv.run_to_end {es : List Event} {s : State} (h : s.Inv) (hp : s.pending = es) :
    ∃ k t, Host.Core.run Sys2Proof.core k s = .next t ∧ t.pending = [] ∧ t.Inv := by
  induction es generalizing s with
  | nil => exact ⟨0, s, rfl, hp, h⟩
  | cons e rest ih =>
    obtain ⟨t, ht, htInv, htp⟩ := h.step_cons hp
    obtain ⟨u, hu, huInv, hup⟩ := htInv.run_transactions (e.expansion_isTransaction _) htp
    obtain ⟨k, v, hv, hvp, hvInv⟩ := ih huInv hup
    exact ⟨_, v, (core_run_succ ht _).trans ((hu k).trans hv), hvp, hvInv⟩

/-- Settles O8: a list of transactions alone takes its own length, and any other ends by `State.Inv.run_to_end`. -/
theorem finiteScriptRunsToItsEnd : Obligations.FiniteScriptRunsToItsEnd := by
  intro s h
  by_cases hlist : ∀ e ∈ s.pending, e.IsTransaction
  · obtain ⟨t, ht, htInv, htp⟩ := h.run_transactions hlist (List.append_nil _).symm
    exact ⟨s.pending.length, t, ht 0, htp, htInv, fun _ => rfl⟩
  · obtain ⟨k, t, ht, htp, htInv⟩ := h.run_to_end rfl
    exact ⟨k, t, ht, htp, htInv, fun hno => absurd hno hlist⟩

end Sys2Proof.Machine
end
